-- ==== Sys2Proof/Word.lean ====
section
/-! DEFINITION. The word types of the jsfc CORE (spec/00_scope.md R5). -/

namespace Sys2Proof

/-- One byte: a register, a data value, an opcode (R5: A, X, Y, SP and P are 8 bits). -/
abbrev Byte := BitVec 8

/-- A CPU address, and the program counter (R5: 16 bits). -/
abbrev Addr := BitVec 16

/-- A picture-unit address (R5: 0x0000–0x3FFF, 14 bits). -/
abbrev PpuAddr := BitVec 14

end Sys2Proof
end

