-- ==== Sys2Proof/Config.lean ====
section
/-! DEFINITION. What an implementation fixes (the parameters of spec/00_scope.md R6), and the free values: the draws
that R6 leaves open under no law. -/

namespace Sys2Proof

/-- The named parameters of R6. R40 calls them configuration; State carries them so that a statement about every state
covers both settings of each, and no step writes them (log 5). The default values are R6's own. -/
structure Config where
  /-- `P_UNOFFICIAL` (D3): the 80 undocumented opcodes of R106 are admitted. -/
  unofficial : Bool := true
  /-- `P_RESET_PUSHES` (D12): the reset service writes PC and P to the stack. -/
  resetPushes : Bool := true
  /-- `P_ROM_WRITABLE` (D6): CPU writes to 0x8000–0xFFFF are stored. -/
  romWritable : Bool := true
  /-- `P_CHR_WRITABLE` (D18): writes to picture-unit 0x0000–0x1FFF are stored. -/
  chrWritable : Bool := true
  /-- `P_PPU_READ_BUFFERED` (D16): reads of 0x2007 below 0x3F00 return the read buffer. -/
  ppuReadBuffered : Bool := true
  /-- `P_NMI_ON_ENABLE` (D15): setting control bit 7 while VBlank is set requests an NMI. -/
  nmiOnEnable : Bool := true
  deriving DecidableEq, Repr

/-- `StatusLow` (R6, R66, D14, I6): bits 6:0 of the n-th draw's 0x2002 read. A FREE VALUE: nothing constrains it (log 4). -/
opaque Config.statusLow : Nat → BitVec 7

/-- `OamRead` (R6, R67, D14, I7): the byte of the n-th draw's 0x2004 read. A FREE VALUE (log 4). -/
opaque Config.oamRead : Nat → Byte

/-- The read buffer after a buffered-mode 0x2007 read at 0x3F00 and above (R71, I8). A FREE VALUE (log 4). -/
opaque Config.paletteBuffer : Nat → Byte

end Sys2Proof
end

