-- ==== Sys2Proof/Syntax.lean ====
section
/-! DEFINITION. The instructions of the jsfc CORE as terms (spec/30_encoding.md R100–R107).

One constructor per mnemonic of spec/opcode_table.json; the addressing mode of a row is the shape of the constructor's
operand, so a row of the table is a constructor together with a mode (log 11). Where two rows share mnemonic AND mode
(the undocumented NOP and SBC duplicates) the term says which row it is: `nopU` carries the opcode byte and `sbcU` is
the row EB. -/

namespace Sys2Proof

/-- The thirteen addressing modes (R101). -/
inductive Mode where
  | imp | acc | imm | zp | zpx | zpy | rel | abs | abx | aby | ind | izx | izy
  deriving DecidableEq, Repr

/-- An operand in memory: the eight modes that resolve to an effective address of data (R141–R147, R149, R150). -/
inductive Addressing where
  | zp (b : Byte)
  | zpx (b : Byte)
  | zpy (b : Byte)
  | abs (a : Addr)
  | abx (a : Addr)
  | aby (a : Addr)
  | izx (b : Byte)
  | izy (b : Byte)
  deriving DecidableEq, Repr

/-- What a reading instruction reads: the operand byte itself (R140) or a byte of memory. -/
inductive Source where
  | imm (b : Byte)
  | mem (m : Addressing)
  deriving DecidableEq, Repr

/-- What a shift works on: the accumulator (R139) or a byte of memory. -/
inductive Target where
  | acc
  | mem (m : Addressing)
  deriving DecidableEq, Repr

/-- Where JMP goes: its operand (R145), or the pointer its operand names (R148). -/
inductive JumpTarget where
  | abs (a : Addr)
  | ind (p : Addr)
  deriving DecidableEq, Repr

/-- The operand of an undocumented NOP: none, a byte that is fetched, or a byte of memory that is read (R331). -/
inductive NopOperand where
  | imp
  | imm (b : Byte)
  | mem (m : Addressing)
  deriving DecidableEq, Repr

/-- The instructions. The rule of each is its docstring's. -/
inductive Instr where
  /-- R171 -/ | lda (o : Source)
  /-- R172 -/ | ldx (o : Source)
  /-- R173 -/ | ldy (o : Source)
  /-- R174 -/ | sta (m : Addressing)
  /-- R175 -/ | stx (m : Addressing)
  /-- R176 -/ | sty (m : Addressing)
  /-- R177 -/ | tax
  /-- R178 -/ | tay
  /-- R179 -/ | txa
  /-- R180 -/ | tya
  /-- R181 -/ | tsx
  /-- R182 -/ | txs
  /-- R203 -/ | adc (o : Source)
  /-- R204 -/ | sbc (o : Source)
  /-- R205 -/ | and (o : Source)
  /-- R206 -/ | ora (o : Source)
  /-- R207 -/ | eor (o : Source)
  /-- R208 -/ | cmp (o : Source)
  /-- R209 -/ | cpx (o : Source)
  /-- R210 -/ | cpy (o : Source)
  /-- R211 -/ | bit (m : Addressing)
  /-- R212 -/ | inc (m : Addressing)
  /-- R213 -/ | dec (m : Addressing)
  /-- R214 -/ | inx
  /-- R215 -/ | iny
  /-- R216 -/ | dex
  /-- R217 -/ | dey
  /-- R241 -/ | asl (t : Target)
  /-- R242 -/ | lsr (t : Target)
  /-- R243 -/ | rol (t : Target)
  /-- R244 -/ | ror (t : Target)
  /-- R261 -/ | bpl (rel : Byte)
  /-- R262 -/ | bmi (rel : Byte)
  /-- R263 -/ | bvc (rel : Byte)
  /-- R264 -/ | bvs (rel : Byte)
  /-- R265 -/ | bcc (rel : Byte)
  /-- R266 -/ | bcs (rel : Byte)
  /-- R267 -/ | bne (rel : Byte)
  /-- R268 -/ | beq (rel : Byte)
  /-- R269 -/ | jmp (t : JumpTarget)
  /-- R270 -/ | jsr (a : Addr)
  /-- R271 -/ | rts
  /-- R293 -/ | pha
  /-- R294 -/ | pla
  /-- R295 -/ | php
  /-- R296 -/ | plp
  /-- R297 -/ | clc
  /-- R298 -/ | sec
  /-- R299 -/ | cli
  /-- R300 -/ | sei
  /-- R301 -/ | cld
  /-- R302 -/ | sed
  /-- R303 -/ | clv
  /-- R304 -/ | nop
  /-- R305 -/ | brk
  /-- R306 -/ | rti
  /-- R331: the undocumented NOP of opcode `op` -/ | nopU (op : Byte) (o : NopOperand)
  /-- R332 -/ | lax (m : Addressing)
  /-- R333 -/ | sax (m : Addressing)
  /-- R334: SBC of opcode EB -/ | sbcU (b : Byte)
  /-- R335 -/ | slo (m : Addressing)
  /-- R336 -/ | rla (m : Addressing)
  /-- R337 -/ | sre (m : Addressing)
  /-- R338 -/ | rra (m : Addressing)
  /-- R339 -/ | dcp (m : Addressing)
  /-- R340 -/ | isb (m : Addressing)
  /-- R107, R401: an opcode without a descriptor -/ | undefined (op : Byte)
  deriving DecidableEq, Repr

end Sys2Proof
end

