-- ==== Sys2Proof/WellFormed.lean ====
section
/-! DEFINITION. Which terms are instructions: the modes each mnemonic has (spec/30_encoding.md R105, R106 and the
Encoding line of each instruction's rule), the opcodes of the undocumented NOP (R331), the opcodes without a descriptor
(R107). Decoding gives no other term. -/

namespace Sys2Proof

/-- The mode of an operand in memory. -/
def Addressing.mode : Addressing → Mode
  | .zp _ => .zp
  | .zpx _ => .zpx
  | .zpy _ => .zpy
  | .abs _ => .abs
  | .abx _ => .abx
  | .aby _ => .aby
  | .izx _ => .izx
  | .izy _ => .izy

/-- The mode of a source operand. -/
def Source.mode : Source → Mode
  | .imm _ => .imm
  | .mem m => m.mode

/-- The mode of a shift's operand. -/
def Target.mode : Target → Mode
  | .acc => .acc
  | .mem m => m.mode

/-- The mode of a jump's operand. -/
def JumpTarget.mode : JumpTarget → Mode
  | .abs _ => .abs
  | .ind _ => .ind

/-- The mode of an undocumented NOP's operand. -/
def NopOperand.mode : NopOperand → Mode
  | .imp => .imp
  | .imm _ => .imm
  | .mem m => m.mode

/-- The addressing mode of an instruction; an opcode without a descriptor has none (R107). -/
def Instr.mode : Instr → Option Mode
  | .lda o | .ldx o | .ldy o | .adc o | .sbc o | .and o | .ora o | .eor o | .cmp o | .cpx o | .cpy o => some o.mode
  | .sta m | .stx m | .sty m | .bit m | .inc m | .dec m => some m.mode
  | .lax m | .sax m | .slo m | .rla m | .sre m | .rra m | .dcp m | .isb m => some m.mode
  | .asl t | .lsr t | .rol t | .ror t => some t.mode
  | .bpl _ | .bmi _ | .bvc _ | .bvs _ | .bcc _ | .bcs _ | .bne _ | .beq _ => some .rel
  | .jmp t => some t.mode
  | .jsr _ => some .abs
  | .sbcU _ => some .imm
  | .nopU _ o => some o.mode
  | .tax | .tay | .txa | .tya | .tsx | .txs | .inx | .iny | .dex | .dey => some .imp
  | .rts | .pha | .pla | .php | .plp | .clc | .sec | .cli | .sei | .cld | .sed | .clv | .nop | .brk | .rti => some .imp
  | .undefined _ => none

/-- The modes of the eight accumulator instructions that read (R171, R203–R208). -/
def accumulatorModes : List Mode := [.imm, .zp, .zpx, .abs, .abx, .aby, .izx, .izy]

/-- The modes of the shifts (R240). -/
def shiftModes : List Mode := [.acc, .zp, .zpx, .abs, .abx]

/-- The modes of the undocumented read-modify-write combinations (R335–R340). -/
def comboModes : List Mode := [.zp, .zpx, .abs, .abx, .aby, .izx, .izy]

/-- The undocumented NOPs: opcode and mode (R331). -/
def nopForms : List (Byte × Mode) :=
  [(0x1A, .imp), (0x3A, .imp), (0x5A, .imp), (0x7A, .imp), (0xDA, .imp), (0xFA, .imp)] ++
  [(0x80, .imm), (0x82, .imm), (0x89, .imm), (0xC2, .imm), (0xE2, .imm)] ++
  [(0x04, .zp), (0x44, .zp), (0x64, .zp)] ++
  [(0x14, .zpx), (0x34, .zpx), (0x54, .zpx), (0x74, .zpx), (0xD4, .zpx), (0xF4, .zpx)] ++
  [(0x0C, .abs)] ++
  [(0x1C, .abx), (0x3C, .abx), (0x5C, .abx), (0x7C, .abx), (0xDC, .abx), (0xFC, .abx)]

/-- The 25 opcodes without a descriptor (R107). -/
def undefinedOpcodes : List Byte :=
  [0x02, 0x12, 0x22, 0x32, 0x42, 0x52, 0x62, 0x72, 0x92, 0xB2, 0xD2, 0xF2] ++
  [0x0B, 0x2B, 0x4B, 0x6B, 0x8B, 0xAB, 0xCB, 0x93, 0x9B, 0x9C, 0x9E, 0x9F, 0xBB]

/-- A term that stands for a row of the opcode table: its operand has a mode its mnemonic has. -/
def Instr.wellFormed : Instr → Bool
  | .lda o | .adc o | .sbc o | .and o | .ora o | .eor o | .cmp o => accumulatorModes.contains o.mode
  | .ldx o => [Mode.imm, .zp, .zpy, .abs, .aby].contains o.mode
  | .ldy o => [Mode.imm, .zp, .zpx, .abs, .abx].contains o.mode
  | .cpx o | .cpy o => [Mode.imm, .zp, .abs].contains o.mode
  | .sta m => comboModes.contains m.mode
  | .stx m => [Mode.zp, .zpy, .abs].contains m.mode
  | .sty m => [Mode.zp, .zpx, .abs].contains m.mode
  | .bit m => [Mode.zp, .abs].contains m.mode
  | .inc m | .dec m => [Mode.zp, .zpx, .abs, .abx].contains m.mode
  | .asl t | .lsr t | .rol t | .ror t => shiftModes.contains t.mode
  | .lax m => [Mode.zp, .zpy, .abs, .aby, .izx, .izy].contains m.mode
  | .sax m => [Mode.zp, .zpy, .abs, .izx].contains m.mode
  | .slo m | .rla m | .sre m | .rra m | .dcp m | .isb m => comboModes.contains m.mode
  | .nopU op o => nopForms.contains (op, o.mode)
  | .undefined op => undefinedOpcodes.contains op
  | .bpl _ | .bmi _ | .bvc _ | .bvs _ | .bcc _ | .bcs _ | .bne _ | .beq _ | .jmp _ | .jsr _ | .sbcU _ => true
  | .tax | .tay | .txa | .tya | .tsx | .txs | .inx | .iny | .dex | .dey => true
  | .rts | .pha | .pla | .php | .plp | .clc | .sec | .cli | .sei | .cld | .sed | .clv | .nop | .brk | .rti => true

end Sys2Proof
end

