-- ==== Sys2Proof/Decode.lean ====
section
/-! DEFINITION. From bytes to instructions and back (spec/30_encoding.md R100–R110): the opcode map of R104, the decoder,
total on any bytes and rejecting by name, and the encoder, written from the Encoding line of each instruction's rule. -/

namespace Sys2Proof

/-! ### Bytes of a 16-bit value (R7, R59) -/

/-- `hi(w) = w[15:8]` (R7). -/
def hiByte (w : Addr) : Byte := w.extractLsb' 8 8

/-- `lo(w) = w[7:0]` (R7). -/
def loByte (w : Addr) : Byte := w.extractLsb' 0 8

/-- `{hi, lo}`: the 16-bit value whose low byte is `lo` (R7, R59). -/
def word (lo hi : Byte) : Addr := hi ++ lo

/-- `zext_16(v)` (R7). -/
def zext (b : Byte) : Addr := b.setWidth 16

/-- `s8(v)` sign-extended to 16 bits (R7, R102): an operand of 0x80 or more is negative. -/
def sext (b : Byte) : Addr := b.signExtend 16

/-! ### The opcode map of R104, row by row. `lo` is the low nibble of the opcode, `b1` and `b2` the operand bytes. -/

/-- R104, row 0x. -/
def opcodeRow0 (lo : Nat) (b1 b2 : Byte) : Instr :=
  match lo with
  | 0 => .brk
  | 1 => .ora (.mem (.izx b1))
  | 2 => .undefined 0x02
  | 3 => .slo (.izx b1)
  | 4 => .nopU 0x04 (.mem (.zp b1))
  | 5 => .ora (.mem (.zp b1))
  | 6 => .asl (.mem (.zp b1))
  | 7 => .slo (.zp b1)
  | 8 => .php
  | 9 => .ora (.imm b1)
  | 10 => .asl .acc
  | 11 => .undefined 0x0B
  | 12 => .nopU 0x0C (.mem (.abs (word b1 b2)))
  | 13 => .ora (.mem (.abs (word b1 b2)))
  | 14 => .asl (.mem (.abs (word b1 b2)))
  | _ => .slo (.abs (word b1 b2))

/-- R104, row 1x. -/
def opcodeRow1 (lo : Nat) (b1 b2 : Byte) : Instr :=
  match lo with
  | 0 => .bpl b1
  | 1 => .ora (.mem (.izy b1))
  | 2 => .undefined 0x12
  | 3 => .slo (.izy b1)
  | 4 => .nopU 0x14 (.mem (.zpx b1))
  | 5 => .ora (.mem (.zpx b1))
  | 6 => .asl (.mem (.zpx b1))
  | 7 => .slo (.zpx b1)
  | 8 => .clc
  | 9 => .ora (.mem (.aby (word b1 b2)))
  | 10 => .nopU 0x1A .imp
  | 11 => .slo (.aby (word b1 b2))
  | 12 => .nopU 0x1C (.mem (.abx (word b1 b2)))
  | 13 => .ora (.mem (.abx (word b1 b2)))
  | 14 => .asl (.mem (.abx (word b1 b2)))
  | _ => .slo (.abx (word b1 b2))

/-- R104, row 2x. -/
def opcodeRow2 (lo : Nat) (b1 b2 : Byte) : Instr :=
  match lo with
  | 0 => .jsr (word b1 b2)
  | 1 => .and (.mem (.izx b1))
  | 2 => .undefined 0x22
  | 3 => .rla (.izx b1)
  | 4 => .bit (.zp b1)
  | 5 => .and (.mem (.zp b1))
  | 6 => .rol (.mem (.zp b1))
  | 7 => .rla (.zp b1)
  | 8 => .plp
  | 9 => .and (.imm b1)
  | 10 => .rol .acc
  | 11 => .undefined 0x2B
  | 12 => .bit (.abs (word b1 b2))
  | 13 => .and (.mem (.abs (word b1 b2)))
  | 14 => .rol (.mem (.abs (word b1 b2)))
  | _ => .rla (.abs (word b1 b2))

/-- R104, row 3x. -/
def opcodeRow3 (lo : Nat) (b1 b2 : Byte) : Instr :=
  match lo with
  | 0 => .bmi b1
  | 1 => .and (.mem (.izy b1))
  | 2 => .undefined 0x32
  | 3 => .rla (.izy b1)
  | 4 => .nopU 0x34 (.mem (.zpx b1))
  | 5 => .and (.mem (.zpx b1))
  | 6 => .rol (.mem (.zpx b1))
  | 7 => .rla (.zpx b1)
  | 8 => .sec
  | 9 => .and (.mem (.aby (word b1 b2)))
  | 10 => .nopU 0x3A .imp
  | 11 => .rla (.aby (word b1 b2))
  | 12 => .nopU 0x3C (.mem (.abx (word b1 b2)))
  | 13 => .and (.mem (.abx (word b1 b2)))
  | 14 => .rol (.mem (.abx (word b1 b2)))
  | _ => .rla (.abx (word b1 b2))

/-- R104, row 4x. -/
def opcodeRow4 (lo : Nat) (b1 b2 : Byte) : Instr :=
  match lo with
  | 0 => .rti
  | 1 => .eor (.mem (.izx b1))
  | 2 => .undefined 0x42
  | 3 => .sre (.izx b1)
  | 4 => .nopU 0x44 (.mem (.zp b1))
  | 5 => .eor (.mem (.zp b1))
  | 6 => .lsr (.mem (.zp b1))
  | 7 => .sre (.zp b1)
  | 8 => .pha
  | 9 => .eor (.imm b1)
  | 10 => .lsr .acc
  | 11 => .undefined 0x4B
  | 12 => .jmp (.abs (word b1 b2))
  | 13 => .eor (.mem (.abs (word b1 b2)))
  | 14 => .lsr (.mem (.abs (word b1 b2)))
  | _ => .sre (.abs (word b1 b2))

/-- R104, row 5x. -/
def opcodeRow5 (lo : Nat) (b1 b2 : Byte) : Instr :=
  match lo with
  | 0 => .bvc b1
  | 1 => .eor (.mem (.izy b1))
  | 2 => .undefined 0x52
  | 3 => .sre (.izy b1)
  | 4 => .nopU 0x54 (.mem (.zpx b1))
  | 5 => .eor (.mem (.zpx b1))
  | 6 => .lsr (.mem (.zpx b1))
  | 7 => .sre (.zpx b1)
  | 8 => .cli
  | 9 => .eor (.mem (.aby (word b1 b2)))
  | 10 => .nopU 0x5A .imp
  | 11 => .sre (.aby (word b1 b2))
  | 12 => .nopU 0x5C (.mem (.abx (word b1 b2)))
  | 13 => .eor (.mem (.abx (word b1 b2)))
  | 14 => .lsr (.mem (.abx (word b1 b2)))
  | _ => .sre (.abx (word b1 b2))

/-- R104, row 6x. -/
def opcodeRow6 (lo : Nat) (b1 b2 : Byte) : Instr :=
  match lo with
  | 0 => .rts
  | 1 => .adc (.mem (.izx b1))
  | 2 => .undefined 0x62
  | 3 => .rra (.izx b1)
  | 4 => .nopU 0x64 (.mem (.zp b1))
  | 5 => .adc (.mem (.zp b1))
  | 6 => .ror (.mem (.zp b1))
  | 7 => .rra (.zp b1)
  | 8 => .pla
  | 9 => .adc (.imm b1)
  | 10 => .ror .acc
  | 11 => .undefined 0x6B
  | 12 => .jmp (.ind (word b1 b2))
  | 13 => .adc (.mem (.abs (word b1 b2)))
  | 14 => .ror (.mem (.abs (word b1 b2)))
  | _ => .rra (.abs (word b1 b2))

/-- R104, row 7x. -/
def opcodeRow7 (lo : Nat) (b1 b2 : Byte) : Instr :=
  match lo with
  | 0 => .bvs b1
  | 1 => .adc (.mem (.izy b1))
  | 2 => .undefined 0x72
  | 3 => .rra (.izy b1)
  | 4 => .nopU 0x74 (.mem (.zpx b1))
  | 5 => .adc (.mem (.zpx b1))
  | 6 => .ror (.mem (.zpx b1))
  | 7 => .rra (.zpx b1)
  | 8 => .sei
  | 9 => .adc (.mem (.aby (word b1 b2)))
  | 10 => .nopU 0x7A .imp
  | 11 => .rra (.aby (word b1 b2))
  | 12 => .nopU 0x7C (.mem (.abx (word b1 b2)))
  | 13 => .adc (.mem (.abx (word b1 b2)))
  | 14 => .ror (.mem (.abx (word b1 b2)))
  | _ => .rra (.abx (word b1 b2))

/-- R104, row 8x. -/
def opcodeRow8 (lo : Nat) (b1 b2 : Byte) : Instr :=
  match lo with
  | 0 => .nopU 0x80 (.imm b1)
  | 1 => .sta (.izx b1)
  | 2 => .nopU 0x82 (.imm b1)
  | 3 => .sax (.izx b1)
  | 4 => .sty (.zp b1)
  | 5 => .sta (.zp b1)
  | 6 => .stx (.zp b1)
  | 7 => .sax (.zp b1)
  | 8 => .dey
  | 9 => .nopU 0x89 (.imm b1)
  | 10 => .txa
  | 11 => .undefined 0x8B
  | 12 => .sty (.abs (word b1 b2))
  | 13 => .sta (.abs (word b1 b2))
  | 14 => .stx (.abs (word b1 b2))
  | _ => .sax (.abs (word b1 b2))

/-- R104, row 9x. -/
def opcodeRow9 (lo : Nat) (b1 b2 : Byte) : Instr :=
  match lo with
  | 0 => .bcc b1
  | 1 => .sta (.izy b1)
  | 2 => .undefined 0x92
  | 3 => .undefined 0x93
  | 4 => .sty (.zpx b1)
  | 5 => .sta (.zpx b1)
  | 6 => .stx (.zpy b1)
  | 7 => .sax (.zpy b1)
  | 8 => .tya
  | 9 => .sta (.aby (word b1 b2))
  | 10 => .txs
  | 11 => .undefined 0x9B
  | 12 => .undefined 0x9C
  | 13 => .sta (.abx (word b1 b2))
  | 14 => .undefined 0x9E
  | _ => .undefined 0x9F

/-- R104, row Ax. -/
def opcodeRowA (lo : Nat) (b1 b2 : Byte) : Instr :=
  match lo with
  | 0 => .ldy (.imm b1)
  | 1 => .lda (.mem (.izx b1))
  | 2 => .ldx (.imm b1)
  | 3 => .lax (.izx b1)
  | 4 => .ldy (.mem (.zp b1))
  | 5 => .lda (.mem (.zp b1))
  | 6 => .ldx (.mem (.zp b1))
  | 7 => .lax (.zp b1)
  | 8 => .tay
  | 9 => .lda (.imm b1)
  | 10 => .tax
  | 11 => .undefined 0xAB
  | 12 => .ldy (.mem (.abs (word b1 b2)))
  | 13 => .lda (.mem (.abs (word b1 b2)))
  | 14 => .ldx (.mem (.abs (word b1 b2)))
  | _ => .lax (.abs (word b1 b2))

/-- R104, row Bx. -/
def opcodeRowB (lo : Nat) (b1 b2 : Byte) : Instr :=
  match lo with
  | 0 => .bcs b1
  | 1 => .lda (.mem (.izy b1))
  | 2 => .undefined 0xB2
  | 3 => .lax (.izy b1)
  | 4 => .ldy (.mem (.zpx b1))
  | 5 => .lda (.mem (.zpx b1))
  | 6 => .ldx (.mem (.zpy b1))
  | 7 => .lax (.zpy b1)
  | 8 => .clv
  | 9 => .lda (.mem (.aby (word b1 b2)))
  | 10 => .tsx
  | 11 => .undefined 0xBB
  | 12 => .ldy (.mem (.abx (word b1 b2)))
  | 13 => .lda (.mem (.abx (word b1 b2)))
  | 14 => .ldx (.mem (.aby (word b1 b2)))
  | _ => .lax (.aby (word b1 b2))

/-- R104, row Cx. -/
def opcodeRowC (lo : Nat) (b1 b2 : Byte) : Instr :=
  match lo with
  | 0 => .cpy (.imm b1)
  | 1 => .cmp (.mem (.izx b1))
  | 2 => .nopU 0xC2 (.imm b1)
  | 3 => .dcp (.izx b1)
  | 4 => .cpy (.mem (.zp b1))
  | 5 => .cmp (.mem (.zp b1))
  | 6 => .dec (.zp b1)
  | 7 => .dcp (.zp b1)
  | 8 => .iny
  | 9 => .cmp (.imm b1)
  | 10 => .dex
  | 11 => .undefined 0xCB
  | 12 => .cpy (.mem (.abs (word b1 b2)))
  | 13 => .cmp (.mem (.abs (word b1 b2)))
  | 14 => .dec (.abs (word b1 b2))
  | _ => .dcp (.abs (word b1 b2))

/-- R104, row Dx. -/
def opcodeRowD (lo : Nat) (b1 b2 : Byte) : Instr :=
  match lo with
  | 0 => .bne b1
  | 1 => .cmp (.mem (.izy b1))
  | 2 => .undefined 0xD2
  | 3 => .dcp (.izy b1)
  | 4 => .nopU 0xD4 (.mem (.zpx b1))
  | 5 => .cmp (.mem (.zpx b1))
  | 6 => .dec (.zpx b1)
  | 7 => .dcp (.zpx b1)
  | 8 => .cld
  | 9 => .cmp (.mem (.aby (word b1 b2)))
  | 10 => .nopU 0xDA .imp
  | 11 => .dcp (.aby (word b1 b2))
  | 12 => .nopU 0xDC (.mem (.abx (word b1 b2)))
  | 13 => .cmp (.mem (.abx (word b1 b2)))
  | 14 => .dec (.abx (word b1 b2))
  | _ => .dcp (.abx (word b1 b2))

/-- R104, row Ex. -/
def opcodeRowE (lo : Nat) (b1 b2 : Byte) : Instr :=
  match lo with
  | 0 => .cpx (.imm b1)
  | 1 => .sbc (.mem (.izx b1))
  | 2 => .nopU 0xE2 (.imm b1)
  | 3 => .isb (.izx b1)
  | 4 => .cpx (.mem (.zp b1))
  | 5 => .sbc (.mem (.zp b1))
  | 6 => .inc (.zp b1)
  | 7 => .isb (.zp b1)
  | 8 => .inx
  | 9 => .sbc (.imm b1)
  | 10 => .nop
  | 11 => .sbcU b1
  | 12 => .cpx (.mem (.abs (word b1 b2)))
  | 13 => .sbc (.mem (.abs (word b1 b2)))
  | 14 => .inc (.abs (word b1 b2))
  | _ => .isb (.abs (word b1 b2))

/-- R104, row Fx. -/
def opcodeRowF (lo : Nat) (b1 b2 : Byte) : Instr :=
  match lo with
  | 0 => .beq b1
  | 1 => .sbc (.mem (.izy b1))
  | 2 => .undefined 0xF2
  | 3 => .isb (.izy b1)
  | 4 => .nopU 0xF4 (.mem (.zpx b1))
  | 5 => .sbc (.mem (.zpx b1))
  | 6 => .inc (.zpx b1)
  | 7 => .isb (.zpx b1)
  | 8 => .sed
  | 9 => .sbc (.mem (.aby (word b1 b2)))
  | 10 => .nopU 0xFA .imp
  | 11 => .isb (.aby (word b1 b2))
  | 12 => .nopU 0xFC (.mem (.abx (word b1 b2)))
  | 13 => .sbc (.mem (.abx (word b1 b2)))
  | 14 => .inc (.abx (word b1 b2))
  | _ => .isb (.abx (word b1 b2))

/-- The instruction of an opcode byte and its operand bytes: the descriptor lookup of R103 together with the operand
assembly of R102. Operand bytes the mode does not have are not looked at. -/
def instrOf (op b1 b2 : Byte) : Instr :=
  let lo := op.toNat % 16
  match op.toNat / 16 with
  | 0 => opcodeRow0 lo b1 b2
  | 1 => opcodeRow1 lo b1 b2
  | 2 => opcodeRow2 lo b1 b2
  | 3 => opcodeRow3 lo b1 b2
  | 4 => opcodeRow4 lo b1 b2
  | 5 => opcodeRow5 lo b1 b2
  | 6 => opcodeRow6 lo b1 b2
  | 7 => opcodeRow7 lo b1 b2
  | 8 => opcodeRow8 lo b1 b2
  | 9 => opcodeRow9 lo b1 b2
  | 10 => opcodeRowA lo b1 b2
  | 11 => opcodeRowB lo b1 b2
  | 12 => opcodeRowC lo b1 b2
  | 13 => opcodeRowD lo b1 b2
  | 14 => opcodeRowE lo b1 b2
  | _ => opcodeRowF lo b1 b2

/-! ### Lengths and admission -/

/-- OPLEN: the operand length of each mode (R101). -/
def Mode.operandLength : Mode → Nat
  | .imp | .acc => 0
  | .imm | .zp | .zpx | .zpy | .rel | .izx | .izy => 1
  | .abs | .abx | .aby | .ind => 2

/-- The operand length of an instruction; an opcode without a descriptor has no operand (R401: no operand byte is read). -/
def Instr.operandLength (i : Instr) : Nat :=
  match i.mode with
  | some m => m.operandLength
  | none => 0

/-- The length of an instruction: `1 + OPLEN(mode(opcode))` (R108). -/
def Instr.length (i : Instr) : Nat := 1 + i.operandLength

/-- The descriptor of the instruction is one of the 151 documented ones (R105); the others are the subset U (R106) and
the opcodes without a descriptor (R107). -/
def Instr.documented : Instr → Bool
  | .nopU _ _ | .lax _ | .sax _ | .sbcU _ | .slo _ | .rla _ | .sre _ | .rra _ | .dcp _ | .isb _ | .undefined _ => false
  | .lda _ | .ldx _ | .ldy _ | .sta _ | .stx _ | .sty _ | .tax | .tay | .txa | .tya | .tsx | .txs | .adc _ | .sbc _
  | .and _ | .ora _ | .eor _ | .cmp _ | .cpx _ | .cpy _ | .bit _ | .inc _ | .dec _ | .inx | .iny | .dex | .dey
  | .asl _ | .lsr _ | .rol _ | .ror _ | .bpl _ | .bmi _ | .bvc _ | .bvs _ | .bcc _ | .bcs _ | .bne _ | .beq _
  | .jmp _ | .jsr _ | .rts | .pha | .pla | .php | .plp | .clc | .sec | .cli | .sei | .cld | .sed | .clv | .nop | .brk
  | .rti => true

/-- The opcode has a descriptor at all (R107). -/
def Instr.hasDescriptor : Instr → Bool
  | .undefined _ => false
  | .lda _ | .ldx _ | .ldy _ | .sta _ | .stx _ | .sty _ | .tax | .tay | .txa | .tya | .tsx | .txs | .adc _ | .sbc _
  | .and _ | .ora _ | .eor _ | .cmp _ | .cpx _ | .cpy _ | .bit _ | .inc _ | .dec _ | .inx | .iny | .dex | .dey
  | .asl _ | .lsr _ | .rol _ | .ror _ | .bpl _ | .bmi _ | .bvc _ | .bvs _ | .bcc _ | .bcs _ | .bne _ | .beq _
  | .jmp _ | .jsr _ | .rts | .pha | .pla | .php | .plp | .clc | .sec | .cli | .sei | .cld | .sed | .clv | .nop | .brk
  | .rti | .nopU _ _ | .lax _ | .sax _ | .sbcU _ | .slo _ | .rla _ | .sre _ | .rra _ | .dcp _ | .isb _ => true

/-- The test of R133, the other way round: the opcode has a descriptor, and either it is documented or `P_UNOFFICIAL`
admits it (R106, R330). -/
def Instr.admitted (unofficial : Bool) (i : Instr) : Bool :=
  i.hasDescriptor && (i.documented || unofficial)

/-! ### The decoder -/

/-- Why the decoder rejects bytes. Every opcode byte decodes (R109): an opcode without a descriptor is the instruction
`undefined`, whose meaning is the halt of R401. Only bytes that end too early are rejected. -/
inductive DecodeError where
  /-- There is no byte to decode. -/
  | noBytes
  /-- The bytes end before the last operand byte of this opcode. -/
  | missingOperand (op : Byte)
  deriving DecidableEq, Repr

/-- Decode one instruction from the front of a byte sequence, and give the bytes after it (R100, R109). It reads the
instruction's own bytes and no more. -/
def decode : List Byte → Except DecodeError (Instr × List Byte)
  | [] => .error .noBytes
  | op :: rest =>
    match (instrOf op 0 0).operandLength, rest with
    | 0, _ => .ok (instrOf op 0 0, rest)
    | 1, b1 :: rest' => .ok (instrOf op b1 0, rest')
    | 2, b1 :: b2 :: rest' => .ok (instrOf op b1 b2, rest')
    | _, _ => .error (.missingOperand op)

/-- The instruction the decoder reads from a word numbered as spec/opcode_table.json numbers it: the first byte is bits
7:0, the second bits 15:8, the third bits 23:16; bits at `nbits` and above are 0. -/
def decodeTableWord (nbits w : Nat) : Option Instr :=
  let v := w % 2 ^ nbits
  match decode [BitVec.ofNat 8 v, BitVec.ofNat 8 (v / 256), BitVec.ofNat 8 (v / 65536)] with
  | .ok (i, _) => some i
  | .error _ => none

/-! ### The encoder -/

/-- The opcodes of one mnemonic, by mode: the Encoding line of its rule. A mode the mnemonic does not have keeps the
filler, which no well-formed instruction reads. -/
structure Codes where
  acc : Byte := 0x02
  imm : Byte := 0x02
  zp : Byte := 0x02
  zpx : Byte := 0x02
  zpy : Byte := 0x02
  abs : Byte := 0x02
  abx : Byte := 0x02
  aby : Byte := 0x02
  izx : Byte := 0x02
  izy : Byte := 0x02
  deriving DecidableEq, Repr

/-- The opcode of a memory operand's mode. -/
def Codes.mem (c : Codes) : Addressing → Byte
  | .zp _ => c.zp
  | .zpx _ => c.zpx
  | .zpy _ => c.zpy
  | .abs _ => c.abs
  | .abx _ => c.abx
  | .aby _ => c.aby
  | .izx _ => c.izx
  | .izy _ => c.izy

/-- The opcode of a source operand's mode. -/
def Codes.source (c : Codes) : Source → Byte
  | .imm _ => c.imm
  | .mem m => c.mem m

/-- The opcode of a shift operand's mode. -/
def Codes.target (c : Codes) : Target → Byte
  | .acc => c.acc
  | .mem m => c.mem m

/-- R171, Encoding. -/
def ldaCodes : Codes where
  imm := 0xA9; zp := 0xA5; zpx := 0xB5; abs := 0xAD; abx := 0xBD; aby := 0xB9; izx := 0xA1; izy := 0xB1

/-- R172, Encoding. -/
def ldxCodes : Codes where
  imm := 0xA2; zp := 0xA6; zpy := 0xB6; abs := 0xAE; aby := 0xBE

/-- R173, Encoding. -/
def ldyCodes : Codes where
  imm := 0xA0; zp := 0xA4; zpx := 0xB4; abs := 0xAC; abx := 0xBC

/-- R174, Encoding. -/
def staCodes : Codes where
  zp := 0x85; zpx := 0x95; abs := 0x8D; abx := 0x9D; aby := 0x99; izx := 0x81; izy := 0x91

/-- R175, Encoding. -/
def stxCodes : Codes where
  zp := 0x86; zpy := 0x96; abs := 0x8E

/-- R176, Encoding. -/
def styCodes : Codes where
  zp := 0x84; zpx := 0x94; abs := 0x8C

/-- R203, Encoding. -/
def adcCodes : Codes where
  imm := 0x69; zp := 0x65; zpx := 0x75; abs := 0x6D; abx := 0x7D; aby := 0x79; izx := 0x61; izy := 0x71

/-- R204, Encoding. -/
def sbcCodes : Codes where
  imm := 0xE9; zp := 0xE5; zpx := 0xF5; abs := 0xED; abx := 0xFD; aby := 0xF9; izx := 0xE1; izy := 0xF1

/-- R205, Encoding. -/
def andCodes : Codes where
  imm := 0x29; zp := 0x25; zpx := 0x35; abs := 0x2D; abx := 0x3D; aby := 0x39; izx := 0x21; izy := 0x31

/-- R206, Encoding. -/
def oraCodes : Codes where
  imm := 0x09; zp := 0x05; zpx := 0x15; abs := 0x0D; abx := 0x1D; aby := 0x19; izx := 0x01; izy := 0x11

/-- R207, Encoding. -/
def eorCodes : Codes where
  imm := 0x49; zp := 0x45; zpx := 0x55; abs := 0x4D; abx := 0x5D; aby := 0x59; izx := 0x41; izy := 0x51

/-- R208, Encoding. -/
def cmpCodes : Codes where
  imm := 0xC9; zp := 0xC5; zpx := 0xD5; abs := 0xCD; abx := 0xDD; aby := 0xD9; izx := 0xC1; izy := 0xD1

/-- R209, Encoding. -/
def cpxCodes : Codes where
  imm := 0xE0; zp := 0xE4; abs := 0xEC

/-- R210, Encoding. -/
def cpyCodes : Codes where
  imm := 0xC0; zp := 0xC4; abs := 0xCC

/-- R211, Encoding. -/
def bitCodes : Codes where
  zp := 0x24; abs := 0x2C

/-- R212, Encoding. -/
def incCodes : Codes where
  zp := 0xE6; zpx := 0xF6; abs := 0xEE; abx := 0xFE

/-- R213, Encoding. -/
def decCodes : Codes where
  zp := 0xC6; zpx := 0xD6; abs := 0xCE; abx := 0xDE

/-- R241, Encoding. -/
def aslCodes : Codes where
  acc := 0x0A; zp := 0x06; zpx := 0x16; abs := 0x0E; abx := 0x1E

/-- R242, Encoding. -/
def lsrCodes : Codes where
  acc := 0x4A; zp := 0x46; zpx := 0x56; abs := 0x4E; abx := 0x5E

/-- R243, Encoding. -/
def rolCodes : Codes where
  acc := 0x2A; zp := 0x26; zpx := 0x36; abs := 0x2E; abx := 0x3E

/-- R244, Encoding. -/
def rorCodes : Codes where
  acc := 0x6A; zp := 0x66; zpx := 0x76; abs := 0x6E; abx := 0x7E

/-- R332, Encoding. -/
def laxCodes : Codes where
  zp := 0xA7; zpy := 0xB7; abs := 0xAF; aby := 0xBF; izx := 0xA3; izy := 0xB3

/-- R333, Encoding. -/
def saxCodes : Codes where
  zp := 0x87; zpy := 0x97; abs := 0x8F; izx := 0x83

/-- R335, Encoding. -/
def sloCodes : Codes where
  zp := 0x07; zpx := 0x17; abs := 0x0F; abx := 0x1F; aby := 0x1B; izx := 0x03; izy := 0x13

/-- R336, Encoding. -/
def rlaCodes : Codes where
  zp := 0x27; zpx := 0x37; abs := 0x2F; abx := 0x3F; aby := 0x3B; izx := 0x23; izy := 0x33

/-- R337, Encoding. -/
def sreCodes : Codes where
  zp := 0x47; zpx := 0x57; abs := 0x4F; abx := 0x5F; aby := 0x5B; izx := 0x43; izy := 0x53

/-- R338, Encoding. -/
def rraCodes : Codes where
  zp := 0x67; zpx := 0x77; abs := 0x6F; abx := 0x7F; aby := 0x7B; izx := 0x63; izy := 0x73

/-- R339, Encoding. -/
def dcpCodes : Codes where
  zp := 0xC7; zpx := 0xD7; abs := 0xCF; abx := 0xDF; aby := 0xDB; izx := 0xC3; izy := 0xD3

/-- R340, Encoding. -/
def isbCodes : Codes where
  zp := 0xE7; zpx := 0xF7; abs := 0xEF; abx := 0xFF; aby := 0xFB; izx := 0xE3; izy := 0xF3

/-- The opcode byte of an instruction (R105, R106, R107). -/
def opcode : Instr → Byte
  | .lda o => ldaCodes.source o
  | .ldx o => ldxCodes.source o
  | .ldy o => ldyCodes.source o
  | .adc o => adcCodes.source o
  | .sbc o => sbcCodes.source o
  | .and o => andCodes.source o
  | .ora o => oraCodes.source o
  | .eor o => eorCodes.source o
  | .cmp o => cmpCodes.source o
  | .cpx o => cpxCodes.source o
  | .cpy o => cpyCodes.source o
  | .sta m => staCodes.mem m
  | .stx m => stxCodes.mem m
  | .sty m => styCodes.mem m
  | .bit m => bitCodes.mem m
  | .inc m => incCodes.mem m
  | .dec m => decCodes.mem m
  | .lax m => laxCodes.mem m
  | .sax m => saxCodes.mem m
  | .slo m => sloCodes.mem m
  | .rla m => rlaCodes.mem m
  | .sre m => sreCodes.mem m
  | .rra m => rraCodes.mem m
  | .dcp m => dcpCodes.mem m
  | .isb m => isbCodes.mem m
  | .asl t => aslCodes.target t
  | .lsr t => lsrCodes.target t
  | .rol t => rolCodes.target t
  | .ror t => rorCodes.target t
  | .bpl _ => 0x10
  | .bmi _ => 0x30
  | .bvc _ => 0x50
  | .bvs _ => 0x70
  | .bcc _ => 0x90
  | .bcs _ => 0xB0
  | .bne _ => 0xD0
  | .beq _ => 0xF0
  | .jmp (.abs _) => 0x4C
  | .jmp (.ind _) => 0x6C
  | .jsr _ => 0x20
  | .tax => 0xAA
  | .tay => 0xA8
  | .txa => 0x8A
  | .tya => 0x98
  | .tsx => 0xBA
  | .txs => 0x9A
  | .inx => 0xE8
  | .iny => 0xC8
  | .dex => 0xCA
  | .dey => 0x88
  | .rts => 0x60
  | .pha => 0x48
  | .pla => 0x68
  | .php => 0x08
  | .plp => 0x28
  | .clc => 0x18
  | .sec => 0x38
  | .cli => 0x58
  | .sei => 0x78
  | .cld => 0xD8
  | .sed => 0xF8
  | .clv => 0xB8
  | .nop => 0xEA
  | .brk => 0x00
  | .rti => 0x40
  | .nopU op _ => op
  | .sbcU _ => 0xEB
  | .undefined op => op

/-- The bytes of a 16-bit operand, low byte first (R101, R102). -/
def addrBytes (a : Addr) : List Byte := [loByte a, hiByte a]

/-- The operand bytes of a memory operand (R101). -/
def Addressing.bytes : Addressing → List Byte
  | .zp b | .zpx b | .zpy b | .izx b | .izy b => [b]
  | .abs a | .abx a | .aby a => addrBytes a

/-- The operand bytes of a source operand. -/
def Source.bytes : Source → List Byte
  | .imm b => [b]
  | .mem m => m.bytes

/-- The operand bytes of a shift's operand. -/
def Target.bytes : Target → List Byte
  | .acc => []
  | .mem m => m.bytes

/-- The operand bytes of a jump's operand. -/
def JumpTarget.bytes : JumpTarget → List Byte
  | .abs a | .ind a => addrBytes a

/-- The operand bytes of an undocumented NOP. -/
def NopOperand.bytes : NopOperand → List Byte
  | .imp => []
  | .imm b => [b]
  | .mem m => m.bytes

/-- The operand bytes of an instruction, in the order they follow the opcode (R101). -/
def operandBytes : Instr → List Byte
  | .lda o | .ldx o | .ldy o | .adc o | .sbc o | .and o | .ora o | .eor o | .cmp o | .cpx o | .cpy o => o.bytes
  | .sta m | .stx m | .sty m | .bit m | .inc m | .dec m => m.bytes
  | .lax m | .sax m | .slo m | .rla m | .sre m | .rra m | .dcp m | .isb m => m.bytes
  | .asl t | .lsr t | .rol t | .ror t => t.bytes
  | .bpl r | .bmi r | .bvc r | .bvs r | .bcc r | .bcs r | .bne r | .beq r => [r]
  | .jmp t => t.bytes
  | .jsr a => addrBytes a
  | .sbcU b => [b]
  | .nopU _ o => o.bytes
  | .tax | .tay | .txa | .tya | .tsx | .txs | .inx | .iny | .dex | .dey => []
  | .rts | .pha | .pla | .php | .plp | .clc | .sec | .cli | .sei | .cld | .sed | .clv | .nop | .brk | .rti => []
  | .undefined _ => []

/-- The bytes of a well-formed instruction: its opcode, then its operand bytes (R100, R101). -/
def encode (i : Instr) : List Byte := opcode i :: operandBytes i

end Sys2Proof
end

