-- ==== Sys2Proof/Machine/Cycles.lean ====
section
/-! DEFINITION. The base cycle counts of the descriptor table (spec/70_reset_and_hazards.md R470): by the kind of access
an instruction makes and its mode. -/

namespace Sys2Proof

/-- A memory operand that is read. -/
def Addressing.readCycles : Addressing → Nat
  | .zp _ => 3
  | .zpx _ | .zpy _ | .abs _ | .abx _ | .aby _ => 4
  | .izx _ => 6
  | .izy _ => 5

/-- A memory operand that is stored to: the indexed modes already count their fixed cycle (R174, R463). -/
def Addressing.storeCycles : Addressing → Nat
  | .zp _ => 3
  | .zpx _ | .zpy _ | .abs _ => 4
  | .abx _ | .aby _ => 5
  | .izx _ | .izy _ => 6

/-- A memory operand that is read and written back. -/
def Addressing.rmwCycles : Addressing → Nat
  | .zp _ => 5
  | .zpx _ | .zpy _ | .abs _ => 6
  | .abx _ | .aby _ => 7
  | .izx _ | .izy _ => 8

/-- A source operand. -/
def Source.cycles : Source → Nat
  | .imm _ => 2
  | .mem m => m.readCycles

/-- A shift's operand. -/
def Target.cycles : Target → Nat
  | .acc => 2
  | .mem m => m.rmwCycles

/-- An undocumented NOP's operand. -/
def NopOperand.cycles : NopOperand → Nat
  | .imp | .imm _ => 2
  | .mem m => m.readCycles

/-- `base_cycles` of the instruction's descriptor (R103, R470). An opcode without a descriptor has none. -/
def Instr.baseCycles : Instr → Nat
  | .lda o | .ldx o | .ldy o | .adc o | .sbc o | .and o | .ora o | .eor o | .cmp o | .cpx o | .cpy o => o.cycles
  | .bit m | .lax m => m.readCycles
  | .sta m | .stx m | .sty m | .sax m => m.storeCycles
  | .inc m | .dec m | .slo m | .rla m | .sre m | .rra m | .dcp m | .isb m => m.rmwCycles
  | .asl t | .lsr t | .rol t | .ror t => t.cycles
  | .nopU _ o => o.cycles
  | .sbcU _ => 2
  | .bpl _ | .bmi _ | .bvc _ | .bvs _ | .bcc _ | .bcs _ | .bne _ | .beq _ => 2
  | .tax | .tay | .txa | .tya | .tsx | .txs | .inx | .iny | .dex | .dey => 2
  | .clc | .sec | .cli | .sei | .cld | .sed | .clv | .nop => 2
  | .pha | .php => 3
  | .pla | .plp => 4
  | .jmp (.abs _) => 3
  | .jmp (.ind _) => 5
  | .jsr _ | .rts | .rti => 6
  | .brk => 7
  | .undefined _ => 0

end Sys2Proof
end

