-- ==== Sys2Proof/Machine/State.lean ====
section
/-! DEFINITION. The state of the machine as plain data (spec/10_state.md), its reset value (R39, R450), the reasons it can
stop, and its field updates. -/

namespace Sys2Proof.Machine

/-- Why `loadRom` refuses an image of mapper 0 (R77, R403: "bank count or length"). -/
inductive ImageReason where
  | bankCount
  | length
  deriving DecidableEq, Repr

/-- The error conditions of R400, in the order of its table, as one sum type (D25). -/
inductive Fault where
  /-- The opcode `op` fetched at `pc` has no descriptor (R401). Never the outcome of a step: the engine's run state
  records it, and the step that meets it is a next state. -/
  | undefinedInstruction (op : Byte) (pc : Addr)
  /-- Raised by `loadRom` only: the image's mapper id is not 0 (R402). Safe: the spec names the condition and says that
  the load fails and nothing is written. -/
  | mapperUnsupported (id : Byte)
  /-- Raised by `loadRom` only: a mapper-0 image that R77 refuses (R403). Safe: no claim is made about such an image. -/
  | imageUnsupported (reason : ImageReason)
  deriving DecidableEq, Repr

/-- Reasons for which the model declines an instruction. -/
inductive Refusal where
  /-- The instruction has no meaning in the model yet. Raised by an arm of `exec` that rejects by name, and by nothing
  else; safe. No arm raises it: every instruction has its meaning. -/
  | notModelled (mnemonic : String)
  deriving DecidableEq, Repr

/-- The engine run state (R34): only Halted persists between steps. -/
inductive RunState where
  | running
  | halted (reason : Fault)
  deriving DecidableEq, Repr

/-- The status register P as its individually addressable flags (R20, R25). Bit 5 is the constant 1 (R29) and is not
stored: the byte images put it there. -/
structure Status where
  /-- bit 0, carry (R26) -/
  c : Bool := false
  /-- bit 1, zero (R30) -/
  z : Bool := false
  /-- bit 2, interrupt disable (R31) -/
  i : Bool := false
  /-- bit 3, decimal (R27) -/
  d : Bool := false
  /-- bit 4, break; in the register it always holds 0 (R28) -/
  b : Bool := false
  /-- bit 6, overflow (R31) -/
  v : Bool := false
  /-- bit 7, negative (R30) -/
  n : Bool := false
  deriving DecidableEq, Repr

/-- One byte array (R37), as the list of its bytes that are not 0x00, by rising address. What an unlisted address reads
as, the reads and writes, and the canonical form are in Machine/Memory.lean. -/
abbrev Memory := List Host.Cell

/-- The picture-unit register shim (R38). -/
structure Shim where
  /-- `ppu_ctrl`, the last value written to 0x2000 (R64) -/
  ctrl : Byte := 0
  /-- `ppu_mask`, the last value written to 0x2001 (R65) -/
  mask : Byte := 0
  /-- `oam_addr` (R67) -/
  oamAddr : Byte := 0
  /-- the VBlank flag, bit 7 of 0x2002 (R66) -/
  vblank : Bool := false
  /-- the write toggle of 0x2005 and 0x2006 (R68, R69) -/
  w : Bool := false
  /-- `addr_hi`, the first byte of a 0x2006 pair (R69) -/
  addrHi : BitVec 6 := 0
  /-- `vram_addr`, the VRAM pointer (R69, R71) -/
  vramAddr : PpuAddr := 0
  /-- `read_buf`, the 0x2007 read buffer (R71) -/
  readBuf : Byte := 0
  deriving DecidableEq, Repr

/-- The cartridge state (R38, R74, R75). Before a load it is empty (log 6). -/
structure Cartridge where
  image : List Byte := []
  prgBanks : Byte := 0
  chrBanks : Byte := 0
  mapperId : Byte := 0
  deriving DecidableEq, Repr

/-- What the other actors do between two ticks (R82): the picture unit's events (R412), the level of the maskable
interrupt line (R413), a reset request (R452). -/
inductive HostEvent where
  | vblankStart
  | vblankEnd
  | irqLevel (high : Bool)
  | resetRequest
  deriving DecidableEq, Repr

/-- The machine's state: everything the spec gives it, and two fields of the model's own, `draws` and `hostEvents`. -/
structure State where
  /-- accumulator (R21) -/
  a : Byte := 0
  /-- index register X (R22) -/
  x : Byte := 0
  /-- index register Y (R22) -/
  y : Byte := 0
  /-- stack pointer, an offset into the stack page (R23) -/
  sp : Byte := 0
  /-- program counter (R24) -/
  pc : Addr := 0
  /-- status register (R25) -/
  p : Status := { i := true }
  /-- run state (R34) -/
  run : RunState := .running
  /-- cycle budget: the ticks the current instruction or service still occupies (R35) -/
  budget : Nat := 0
  /-- reset request latch (R36, R415) -/
  resetPending : Bool := true
  /-- NMI request latch (R36, R412) -/
  nmiPending : Bool := false
  /-- level of the maskable interrupt input (R36, R413) -/
  irqLine : Bool := false
  /-- `cpu_mem`, 65,536 bytes (R37) -/
  cpuMem : Memory := []
  /-- `ppu_mem`, 16,384 bytes (R37) -/
  ppuMem : Memory := []
  /-- picture-unit register shim (R38) -/
  shim : Shim := {}
  /-- cartridge (R38) -/
  cart : Cartridge := {}
  /-- the parameters of R6, never written (log 5) -/
  config : Config := {}
  /-- the MODEL'S OWN: how many free values have been drawn (log 4) -/
  draws : Nat := 0
  /-- the MODEL'S OWN: what the other actors do, one batch before each tick to come (log 2) -/
  hostEvents : List (List HostEvent) := []
  deriving DecidableEq, Repr

/-- The machine right after power-on, before a cartridge is loaded: every field at the value of R39 and R450 (the
defaults above). The first boundary services the reset request. -/
def State.reset : State := {}

/-! ### Field updates. Their lemmas are in Laws/State.lean. -/

def State.setA (v : Byte) (s : State) : State := { s with a := v }
def State.setX (v : Byte) (s : State) : State := { s with x := v }
def State.setY (v : Byte) (s : State) : State := { s with y := v }
def State.setSp (v : Byte) (s : State) : State := { s with sp := v }
def State.setPc (v : Addr) (s : State) : State := { s with pc := v }
def State.setP (v : Status) (s : State) : State := { s with p := v }
def State.setRun (v : RunState) (s : State) : State := { s with run := v }
def State.setBudget (v : Nat) (s : State) : State := { s with budget := v }
def State.setResetPending (v : Bool) (s : State) : State := { s with resetPending := v }
def State.setNmiPending (v : Bool) (s : State) : State := { s with nmiPending := v }
def State.setIrqLine (v : Bool) (s : State) : State := { s with irqLine := v }
def State.setCpuMem (v : Memory) (s : State) : State := { s with cpuMem := v }
def State.setPpuMem (v : Memory) (s : State) : State := { s with ppuMem := v }
def State.setShim (v : Shim) (s : State) : State := { s with shim := v }
def State.setCart (v : Cartridge) (s : State) : State := { s with cart := v }
def State.setDraws (v : Nat) (s : State) : State := { s with draws := v }
def State.setHostEvents (v : List (List HostEvent)) (s : State) : State := { s with hostEvents := v }

end Sys2Proof.Machine
end

