-- ==== Sys2Proof/Machine/Flags.lean ====
section
/-! DEFINITION. The status byte images (spec/45_stack_flags_system.md R292, spec/10_state.md R25), the zero and negative
rule (R30), and the arithmetic and shift laws with the flags they give (spec/42_arithmetic_logic.md R200–R202,
spec/43_shift_rotate.md R241–R244). -/

namespace Sys2Proof.Machine

/-! ### Byte images of P -/

/-- Eight bits, from bit 7 down to bit 0, as a byte. -/
def byteOfBits (b7 b6 b5 b4 b3 b2 b1 b0 : Bool) : Byte :=
  BitVec.ofBool b7 ++ BitVec.ofBool b6 ++ BitVec.ofBool b5 ++ BitVec.ofBool b4 ++
  BitVec.ofBool b3 ++ BitVec.ofBool b2 ++ BitVec.ofBool b1 ++ BitVec.ofBool b0

/-- `Pbyte = {N, V, 1, B, D, I, Z, C}`: the register as a byte (R25, R29). -/
def Status.byte (p : Status) : Byte := byteOfBits p.n p.v true p.b p.d p.i p.z p.c

/-- `PushedStatus(b)` (R292): the image a push stores, bit 4 given by the pusher. -/
def Status.pushed (b : Bool) (p : Status) : Byte := byteOfBits p.n p.v true b p.d p.i p.z p.c

/-- `PullStatus(v)` (R292): bits 4 and 5 of the byte are ignored; B becomes 0. -/
def Status.pulled (v : Byte) : Status where
  c := v.getLsbD 0
  z := v.getLsbD 1
  i := v.getLsbD 2
  d := v.getLsbD 3
  b := false
  v := v.getLsbD 6
  n := v.getLsbD 7

/-! ### Flag updates of the state -/

/-- `SetNZ(v)` (R30). -/
def State.setNZ (v : Byte) (s : State) : State := s.setP { s.p with z := v == 0, n := v.getLsbD 7 }

/-- `P.C <- v`. -/
def State.setC (v : Bool) (s : State) : State := s.setP { s.p with c := v }

/-- `P.I <- v`. -/
def State.setI (v : Bool) (s : State) : State := s.setP { s.p with i := v }

/-- `P.D <- v`. -/
def State.setD (v : Bool) (s : State) : State := s.setP { s.p with d := v }

/-- `P.V <- v`. -/
def State.setV (v : Bool) (s : State) : State := s.setP { s.p with v := v }

/-! ### Arithmetic (R200–R202). Operands are read as numbers, the result is computed exactly and then narrowed. -/

/-- A result with its carry and overflow. -/
structure AluResult where
  value : Byte
  carry : Bool
  overflow : Bool
  deriving DecidableEq, Repr

/-- `AddWithCarry(a, m, cin)` (R200), the textbook overflow rule (C3). -/
def addWithCarry (a m : Byte) (cin : Bool) : AluResult :=
  let s := a.toNat + m.toNat + cin.toNat
  let r := BitVec.ofNat 8 s
  { value := r
    carry := decide (s > 0xFF)
    overflow := a.getLsbD 7 == m.getLsbD 7 && r.getLsbD 7 != a.getLsbD 7 }

/-- `SubWithBorrow(a, m, c)` (R201); `c` means no borrow in. -/
def subWithBorrow (a m : Byte) (c : Bool) : AluResult :=
  let d : Int := (a.toNat : Int) - (m.toNat : Int) - (1 - (c.toNat : Int))
  let r := BitVec.ofInt 8 d
  { value := r
    carry := decide (0 ≤ d)
    overflow := a.getLsbD 7 != m.getLsbD 7 && r.getLsbD 7 != a.getLsbD 7 }

/-- A becomes the result, with C, V, Z and N (R203, R204). -/
def State.setSum (r : AluResult) (s : State) : State :=
  ((s.setP { s.p with c := r.carry, v := r.overflow }).setNZ r.value).setA r.value

/-- `A <- AddWithCarry(A, m, P.C)` (R203). -/
def State.addToA (m : Byte) (s : State) : State := s.setSum (addWithCarry s.a m s.p.c)

/-- `A <- SubWithBorrow(A, m, P.C)` (R204). -/
def State.subFromA (m : Byte) (s : State) : State := s.setSum (subWithBorrow s.a m s.p.c)

/-- `Compare(reg, m)` (R202): C, Z and N; V is not written. -/
def State.compare (reg m : Byte) (s : State) : State :=
  (s.setC (decide (reg.toNat ≥ m.toNat))).setNZ (BitVec.ofInt 8 ((reg.toNat : Int) - (m.toNat : Int)))

/-- The flags of BIT (R211): Z from A AND m, N and V from bits 7 and 6 of m. -/
def State.testBits (m : Byte) (s : State) : State :=
  s.setP { s.p with z := (s.a &&& m) == 0, n := m.getLsbD 7, v := m.getLsbD 6 }

/-! ### Shifts and rotates (R241–R244): from the operand and the old carry, the result and the carry-out -/

/-- ASL: `(m << 1) mod 256`; the carry-out is the old bit 7 (R241). -/
def shiftLeft (m : Byte) (_cin : Bool) : Byte × Bool := (m <<< 1, m.getLsbD 7)

/-- LSR: `m >> 1`; the carry-out is the old bit 0 (R242). -/
def shiftRight (m : Byte) (_cin : Bool) : Byte × Bool := (m >>> 1, m.getLsbD 0)

/-- ROL: the old carry enters bit 0 (R243). -/
def rotateLeft (m : Byte) (cin : Bool) : Byte × Bool :=
  ((m <<< 1) ||| (BitVec.ofBool cin).setWidth 8, m.getLsbD 7)

/-- ROR: the old carry enters bit 7 (R244). -/
def rotateRight (m : Byte) (cin : Bool) : Byte × Bool :=
  ((m >>> 1) ||| ((BitVec.ofBool cin).setWidth 8 <<< 7), m.getLsbD 0)

/-- INC: the byte plus one; the carry passes through (R212). -/
def increment (m : Byte) (cin : Bool) : Byte × Bool := (m + 1, cin)

/-- DEC: the byte minus one; the carry passes through (R213). -/
def decrement (m : Byte) (cin : Bool) : Byte × Bool := (m - 1, cin)

end Sys2Proof.Machine
end

