-- ==== Sys2Proof/Machine/Memory.lean ====
section
/-! DEFINITION. The two byte arrays (spec/10_state.md R37, spec/20_memory.md R50, R57, R58, R70): reads, writes, copies,
and the canonical form of the list that holds one. -/

namespace Sys2Proof.Machine

/-- What an address that nothing has written reads as (R57, D1). -/
def Memory.unwritten : Byte := 0x00

/-- The number of bytes of `cpu_mem` (R37). -/
def cpuMemSize : Nat := 65536

/-- The number of bytes of `ppu_mem` (R37). -/
def ppuMemSize : Nat := 16384

/-- The byte at an address. -/
def Memory.read : Memory → Nat → Byte
  | [], _ => Memory.unwritten
  | (k, v) :: m, a => if a = k then v else Memory.read m a

/-- Store a byte. Storing what an unlisted address reads as removes the entry, so that equal memories are equal lists. -/
def Memory.write : Memory → Nat → Byte → Memory
  | [], a, v => if v = Memory.unwritten then [] else [(a, v)]
  | (k, u) :: m, a, v =>
    if a < k then (if v = Memory.unwritten then (k, u) :: m else (a, v) :: (k, u) :: m)
    else if a = k then (if v = Memory.unwritten then m else (a, v) :: m)
    else (k, u) :: Memory.write m a v

/-- Entries at `lo` and above, below `size`, rising strictly, none of them the unwritten value. -/
def Memory.wfFrom (size : Nat) : Nat → Memory → Bool
  | _, [] => true
  | lo, (k, v) :: m =>
    decide (lo ≤ k) && decide (k < size) && decide (v ≠ Memory.unwritten) && Memory.wfFrom size (k + 1) m

/-- The canonical form of a memory of `size` bytes. -/
def Memory.wf (size : Nat) (m : Memory) : Bool := Memory.wfFrom size 0 m

/-- `writeToMemory(bytes, start)` (R58): copy straight into the backing storage, past the shim and past
`P_ROM_WRITABLE`. -/
def Memory.copy : List Byte → Nat → Memory → Memory
  | [], _, m => m
  | v :: vs, start, m => Memory.copy vs (start + 1) (m.write start v)

end Sys2Proof.Machine
end

