-- ==== Sys2Proof/Machine/Shim.lean ====
section
/-! DEFINITION. The picture-unit register shim at 0x2000–0x2007 (spec/20_memory.md R54, R64–R72) and the picture-unit
space behind it (R70). A read gives the byte and the state after it. -/

namespace Sys2Proof.Machine

/-- The eight registers of the window (R54). -/
inductive ShimReg where
  | ctrl | mask | status | oamAddr | oamData | scroll | addr | data
  deriving DecidableEq, Repr

/-- The register an address is forwarded to: `a − 0x2000` for 0x2000 ≤ a ≤ 0x2007, none elsewhere (R52, R54). -/
def shimReg (a : Addr) : Option ShimReg :=
  match a.toNat with
  | 0x2000 => some .ctrl
  | 0x2001 => some .mask
  | 0x2002 => some .status
  | 0x2003 => some .oamAddr
  | 0x2004 => some .oamData
  | 0x2005 => some .scroll
  | 0x2006 => some .addr
  | 0x2007 => some .data
  | _ => none

/-- `PpuRead(a)` (R70). -/
def ppuRead (a : PpuAddr) (s : State) : Byte := s.ppuMem.read a.toNat

/-- `PpuWrite(a, v)` (R70): pattern memory is written only when `P_CHR_WRITABLE` is true. -/
def ppuWrite (a : PpuAddr) (v : Byte) (s : State) : State :=
  if a.toNat < 0x2000 && !s.config.chrWritable then s
  else s.setPpuMem (s.ppuMem.write a.toNat v)

/-- The amount a 0x2007 access moves the pointer by: control bit 2 (R64, R71). -/
def vramStep (s : State) : PpuAddr := if s.shim.ctrl.getLsbD 2 then 32 else 1

/-- `vram_addr <- (vram_addr + inc) mod 2^14` (R71). -/
def advanceVram (s : State) : State :=
  s.setShim { s.shim with vramAddr := s.shim.vramAddr + vramStep s }

/-- A read of 0x2002 (R66): VBlank in bit 7, a drawn value in bits 6:0; then `vblank` and `w` are cleared. -/
def readStatus (s : State) : Byte × State :=
  (BitVec.ofBool s.shim.vblank ++ Config.statusLow s.draws,
   (s.setShim { s.shim with vblank := false, w := false }).setDraws (s.draws + 1))

/-- A read of 0x2004 (R67): a drawn byte. -/
def readOamData (s : State) : Byte × State :=
  (Config.oamRead s.draws, s.setDraws (s.draws + 1))

/-- A read of 0x2007 (R71). -/
def readVramData (s : State) : Byte × State :=
  let stored := ppuRead s.shim.vramAddr s
  if s.config.ppuReadBuffered then
    if s.shim.vramAddr.toNat < 0x3F00 then
      (s.shim.readBuf, advanceVram (s.setShim { s.shim with readBuf := stored }))
    else
      (stored,
       advanceVram ((s.setShim { s.shim with readBuf := Config.paletteBuffer s.draws }).setDraws (s.draws + 1)))
  else (stored, advanceVram s)

/-- A CPU read of a window register (R64–R72). The write-only registers read as 0x00 and change nothing (R72). -/
def shimRead (r : ShimReg) (s : State) : Byte × State :=
  match r with
  | .ctrl | .mask | .oamAddr | .scroll | .addr => (0x00, s)
  | .status => readStatus s
  | .oamData => readOamData s
  | .data => readVramData s

/-- A write of 0x2000 (R64): a 0→1 write of bit 7 while `vblank` is set requests an NMI, if `P_NMI_ON_ENABLE`. -/
def writeCtrl (v : Byte) (s : State) : State :=
  let enables := s.config.nmiOnEnable && s.shim.vblank && !s.shim.ctrl.getLsbD 7 && v.getLsbD 7
  (s.setShim { s.shim with ctrl := v }).setNmiPending (s.nmiPending || enables)

/-- A write of 0x2006 (R69): the high six bits first, then the low byte. -/
def writeAddr (v : Byte) (s : State) : State :=
  if s.shim.w then s.setShim { s.shim with vramAddr := s.shim.addrHi ++ v, w := false }
  else s.setShim { s.shim with addrHi := v.extractLsb' 0 6, w := true }

/-- A CPU write of a window register (R64–R72). A write of the read-only 0x2002 is ignored (R72). -/
def shimWrite (r : ShimReg) (v : Byte) (s : State) : State :=
  match r with
  | .ctrl => writeCtrl v s
  | .mask => s.setShim { s.shim with mask := v }
  | .status => s
  | .oamAddr => s.setShim { s.shim with oamAddr := v }
  | .oamData => s.setShim { s.shim with oamAddr := s.shim.oamAddr + 1 }
  | .scroll => s.setShim { s.shim with w := !s.shim.w }
  | .addr => writeAddr v s
  | .data => advanceVram (ppuWrite s.shim.vramAddr v s)

end Sys2Proof.Machine
end

