-- ==== Sys2Proof/Machine/Ops.lean ====
section
/-! DEFINITION. The bus arbiter (spec/20_memory.md R55, R56), the 16-bit pointer reads (spec/40_execution_addressing.md
R135–R137), the stack (spec/45_stack_flags_system.md R290, R291), and taking and leaving an exception
(spec/60_exceptions.md R425, R430). A read gives its value and the state after it, since a read of the window may change
the shim (R63). -/

namespace Sys2Proof.Machine

/-! ### The bus -/

/-- `MemRead(a, 1)` (R55). -/
def memRead (a : Addr) (s : State) : Byte × State :=
  match shimReg a with
  | some r => shimRead r s
  | none => (s.cpuMem.read a.toNat, s)

/-- `MemWrite(a, 1, v)` (R56): the window goes to the shim; 0x8000–0xFFFF is stored only when `P_ROM_WRITABLE` (R53). -/
def memWrite (a : Addr) (v : Byte) (s : State) : State :=
  match shimReg a with
  | some r => shimWrite r v s
  | none =>
    if 0x8000 ≤ a.toNat && !s.config.romWritable then s
    else s.setCpuMem (s.cpuMem.write a.toNat v)

/-! ### Pointer reads: low byte first (R60) -/

/-- Two bus reads, the low byte at `al` and then the high byte at `ah`. -/
def readPair (al ah : Addr) (s : State) : Addr × State :=
  let l := memRead al s
  let h := memRead ah l.2
  (word l.1 h.1, h.2)

/-- `Read16(a)` (R135). -/
def read16 (a : Addr) (s : State) : Addr × State := readPair a (a + 1) s

/-- `Read16ZP(z)` (R136): the high byte's address wraps in the zero page. -/
def read16Zp (z : Byte) (s : State) : Addr × State := readPair (zext z) (zext (z + 1)) s

/-- `Read16Bug(a)` (R137): the high byte comes from the page of the low byte. -/
def read16Bug (a : Addr) (s : State) : Addr × State := readPair a (word (loByte a + 1) (hiByte a)) s

/-! ### The stack -/

/-- `zext_16(0x0100 | SP)` (R23): the stack byte that a stack pointer designates. -/
def stackAddr (sp : Byte) : Addr := word sp 0x01

/-- `Push(v)` (R290). -/
def push (v : Byte) (s : State) : State :=
  let t := memWrite (stackAddr s.sp) v s
  t.setSp (s.sp - 1)

/-- `Pull()` (R291). -/
def pull (s : State) : Byte × State :=
  memRead (stackAddr (s.sp + 1)) (s.setSp (s.sp + 1))

/-- `Push(hi(w)); Push(lo(w))`: a 16-bit value, high byte first (R270, R425). -/
def pushWord (w : Addr) (s : State) : State := push (loByte w) (push (hiByte w) s)

/-- `lo <- Pull(); hi <- Pull()`: a 16-bit value, low byte first (R271, R306). -/
def pullWord (s : State) : Addr × State :=
  let l := pull s
  let h := pull l.2
  (word l.1 h.1, h.2)

/-! ### Exceptions -/

/-- The vector pairs (R410, R426). -/
def nmiVector : Addr := 0xFFFA
def resetVector : Addr := 0xFFFC
def irqVector : Addr := 0xFFFE

/-- `PC <- Read16(vector)` (R425, R426, R451). -/
def jumpThrough (vector : Addr) (s : State) : State :=
  let t := read16 vector s
  t.2.setPc t.1

/-- `InterruptEntry(ret, b, vector)` (R425): taking an exception. PCH, PCL and P are pushed (D38), bit 4 of the pushed P
is `b` (D8), I is set, and the PC comes from the vector. D keeps its value (D39). -/
def interruptEntry (ret : Addr) (b : Bool) (vector : Addr) (s : State) : State :=
  let pushedPc := pushWord ret s
  let pushedP := push (s.p.pushed b) pushedPc
  jumpThrough vector (pushedP.setI true)

/-- The return from an exception (R306, R430): P, then PCL, then PCH; no 1 is added. -/
def interruptReturn (s : State) : State :=
  let status := pull s
  let target := pullWord (status.2.setP (Status.pulled status.1))
  target.2.setPc target.1

end Sys2Proof.Machine
end

