-- ==== Sys2Proof/Machine/Operands.lean ====
section
/-! DEFINITION. The operand forms (spec/40_execution_addressing.md R134, R138–R150) and the common course of an
instruction after its operand bytes are fetched (R133): resolve, advance PC, execute, set the budget (R151–R153). -/

namespace Sys2Proof.Machine

/-! ### Resolving an operand -/

/-- Where an operand is: the accumulator (R139), the operand byte already fetched (R140), or a byte of memory. -/
inductive Place where
  | acc
  | imm (b : Byte)
  | mem (ea : Addr)
  deriving DecidableEq, Repr

/-- What a memory mode resolves to (R133): the effective address, whether the index crossed a page, and the state after
the pointer reads. -/
structure Effective where
  ea : Addr
  cross : Bool
  state : State
  deriving DecidableEq, Repr

/-- An effective address with no page to cross. -/
def Effective.fixed (ea : Addr) (s : State) : Effective := { ea := ea, cross := false, state := s }

/-- `EA = (base + zext_16(index)) mod 2^16`, `cross = (hi(EA) != hi(base))` (R146, R147, R150). -/
def Effective.indexed (base : Addr) (index : Byte) (s : State) : Effective :=
  let ea := base + zext index
  { ea := ea, cross := hiByte ea != hiByte base, state := s }

/-- The memory modes (R141–R143, R145–R147, R149, R150). -/
def effective (m : Addressing) (s : State) : Effective :=
  match m with
  | .zp b => .fixed (zext b) s
  | .zpx b => .fixed (zext (b + s.x)) s
  | .zpy b => .fixed (zext (b + s.y)) s
  | .abs a => .fixed a s
  | .abx a => .indexed a s.x s
  | .aby a => .indexed a s.y s
  | .izx b =>
    let p := read16Zp (b + s.x) s
    .fixed p.1 p.2
  | .izy b =>
    let p := read16Zp b s
    .indexed p.1 s.y p.2

/-- What `Resolve` gives for any operand (R133). -/
structure Resolved where
  place : Place
  cross : Bool
  state : State
  deriving DecidableEq, Repr

/-- A memory operand. -/
def resolveMem (m : Addressing) (s : State) : Resolved :=
  let e := effective m s
  { place := .mem e.ea, cross := e.cross, state := e.state }

/-- A source operand. -/
def resolveSource (o : Source) (s : State) : Resolved :=
  match o with
  | .imm b => { place := .imm b, cross := false, state := s }
  | .mem m => resolveMem m s

/-- A shift's operand. -/
def resolveTarget (t : Target) (s : State) : Resolved :=
  match t with
  | .acc => { place := .acc, cross := false, state := s }
  | .mem m => resolveMem m s

/-- The target of JMP (R145, R148): the operand, or the pointer read with the page-wrap bug. -/
def resolveJump (t : JumpTarget) (s : State) : Addr × State :=
  match t with
  | .abs a => (a, s)
  | .ind p => read16Bug p s

/-- The target of a branch at `pc0` (R144): the PC after the instruction plus the signed operand. -/
def branchTarget (pc0 : Addr) (rel : Byte) : Addr := pc0 + 2 + sext rel

/-- `Load(mode, EA)` (R134): the immediate byte is not read a second time (D24). -/
def load (p : Place) (s : State) : Byte × State :=
  match p with
  | .acc => (s.a, s)
  | .imm b => (b, s)
  | .mem ea => memRead ea s

/-- `Store(mode, EA, v)` (R134). No instruction stores to an immediate. -/
def store (p : Place) (v : Byte) (s : State) : State :=
  match p with
  | .acc => s.setA v
  | .imm _ => s
  | .mem ea => memWrite ea v s

/-! ### The course of an instruction (R133) -/

/-- `PC <- (pc0 + 1 + n) mod 2^16`. -/
def advance (i : Instr) (s : State) : State := s.setPc (s.pc + BitVec.ofNat 16 i.length)

/-- `budget <- d.base_cycles + extra - 1` (R133, R153). -/
def finish (i : Instr) (extra : Nat) (s : State) : State := s.setBudget (i.baseCycles + extra - 1)

/-- The page-cross penalty of a read (R151): one cycle when the index crossed a page. -/
def penalty (cross : Bool) : Nat := if cross then 1 else 0

/-- An instruction without a memory operand: advance, then its effect. -/
def runImplied (i : Instr) (effect : State → State) (s : State) : State :=
  finish i 0 (effect (advance i s))

/-- An instruction that loads its operand and then acts on the byte. Its page-cross penalty is R151's. -/
def runRead (i : Instr) (o : Source) (effect : Byte → State → State) (s : State) : State :=
  let r := resolveSource o s
  let v := load r.place (advance i r.state)
  finish i (penalty r.cross) (effect v.1 v.2)

/-- An instruction that stores one byte and changes no flag. It never pays the page-cross penalty (R151, R463). -/
def runStore (i : Instr) (m : Addressing) (value : State → Byte) (s : State) : State :=
  let e := effective m s
  let t := advance i e.state
  finish i 0 (memWrite e.ea (value t) t)

/-- A read-modify-write instruction (R240, R330): one load, one store of the result, then `effect` with the result and
the carry-out. `op` takes the operand and the old carry. It never pays the page-cross penalty (R151). -/
def runModify (i : Instr) (t : Target) (op : Byte → Bool → Byte × Bool) (effect : Byte → Bool → State → State)
    (s : State) : State :=
  let r := resolveTarget t s
  let m := load r.place (advance i r.state)
  let res := op m.1 m.2.p.c
  finish i 0 (effect res.1 res.2 (store r.place res.1 m.2))

/-- `Branch(cond)` (R260): a taken branch costs one cycle more, and one more if the target is on another page than the PC
after the instruction. -/
def runBranch (i : Instr) (cond : Bool) (rel : Byte) (s : State) : State :=
  let target := branchTarget s.pc rel
  let t := advance i s
  if cond then finish i (1 + penalty (hiByte target != hiByte t.pc)) (t.setPc target)
  else finish i 0 t

end Sys2Proof.Machine
end

