-- ==== Sys2Proof/Machine/Arithmetic.lean ====
section
/-! DEFINITION. Arithmetic, logic, compare and increment (spec/42_arithmetic_logic.md R203–R217). -/

namespace Sys2Proof.Machine

/-- ADC (R203). -/
def execAdc (o : Source) (s : State) : Host.Outcome State Fault Refusal :=
  .next (runRead (.adc o) o (fun v t => t.addToA v) s)

/-- SBC (R204). -/
def execSbc (o : Source) (s : State) : Host.Outcome State Fault Refusal :=
  .next (runRead (.sbc o) o (fun v t => t.subFromA v) s)

/-- AND (R205). -/
def execAnd (o : Source) (s : State) : Host.Outcome State Fault Refusal :=
  .next (runRead (.and o) o (fun v t => (t.setA (t.a &&& v)).setNZ (t.a &&& v)) s)

/-- ORA (R206). -/
def execOra (o : Source) (s : State) : Host.Outcome State Fault Refusal :=
  .next (runRead (.ora o) o (fun v t => (t.setA (t.a ||| v)).setNZ (t.a ||| v)) s)

/-- EOR (R207). -/
def execEor (o : Source) (s : State) : Host.Outcome State Fault Refusal :=
  .next (runRead (.eor o) o (fun v t => (t.setA (t.a ^^^ v)).setNZ (t.a ^^^ v)) s)

/-- CMP (R208). -/
def execCmp (o : Source) (s : State) : Host.Outcome State Fault Refusal :=
  .next (runRead (.cmp o) o (fun v t => t.compare t.a v) s)

/-- CPX (R209). -/
def execCpx (o : Source) (s : State) : Host.Outcome State Fault Refusal :=
  .next (runRead (.cpx o) o (fun v t => t.compare t.x v) s)

/-- CPY (R210). -/
def execCpy (o : Source) (s : State) : Host.Outcome State Fault Refusal :=
  .next (runRead (.cpy o) o (fun v t => t.compare t.y v) s)

/-- BIT (R211): A is unchanged. -/
def execBit (m : Addressing) (s : State) : Host.Outcome State Fault Refusal :=
  .next (runRead (.bit m) (.mem m) (fun v t => t.testBits v) s)

/-- INC (R212): C and V are unchanged. -/
def execInc (m : Addressing) (s : State) : Host.Outcome State Fault Refusal :=
  .next (runModify (.inc m) (.mem m) increment (fun r _ t => t.setNZ r) s)

/-- DEC (R213). -/
def execDec (m : Addressing) (s : State) : Host.Outcome State Fault Refusal :=
  .next (runModify (.dec m) (.mem m) decrement (fun r _ t => t.setNZ r) s)

/-- INX (R214). -/
def execInx (s : State) : Host.Outcome State Fault Refusal :=
  .next (runImplied .inx (fun t => (t.setX (t.x + 1)).setNZ (t.x + 1)) s)

/-- INY (R215). -/
def execIny (s : State) : Host.Outcome State Fault Refusal :=
  .next (runImplied .iny (fun t => (t.setY (t.y + 1)).setNZ (t.y + 1)) s)

/-- DEX (R216). -/
def execDex (s : State) : Host.Outcome State Fault Refusal :=
  .next (runImplied .dex (fun t => (t.setX (t.x - 1)).setNZ (t.x - 1)) s)

/-- DEY (R217). -/
def execDey (s : State) : Host.Outcome State Fault Refusal :=
  .next (runImplied .dey (fun t => (t.setY (t.y - 1)).setNZ (t.y - 1)) s)

end Sys2Proof.Machine
end

