-- ==== Sys2Proof/Machine/Control.lean ====
section
/-! DEFINITION. Branches, jumps, calls and returns (spec/44_control_flow.md R260–R271). -/

namespace Sys2Proof.Machine

/-- BPL: N = 0 (R261). -/
def execBpl (rel : Byte) (s : State) : Host.Outcome State Fault Refusal :=
  .next (runBranch (.bpl rel) (!s.p.n) rel s)

/-- BMI: N = 1 (R262). -/
def execBmi (rel : Byte) (s : State) : Host.Outcome State Fault Refusal :=
  .next (runBranch (.bmi rel) s.p.n rel s)

/-- BVC: V = 0 (R263). -/
def execBvc (rel : Byte) (s : State) : Host.Outcome State Fault Refusal :=
  .next (runBranch (.bvc rel) (!s.p.v) rel s)

/-- BVS: V = 1 (R264). -/
def execBvs (rel : Byte) (s : State) : Host.Outcome State Fault Refusal :=
  .next (runBranch (.bvs rel) s.p.v rel s)

/-- BCC: C = 0 (R265). -/
def execBcc (rel : Byte) (s : State) : Host.Outcome State Fault Refusal :=
  .next (runBranch (.bcc rel) (!s.p.c) rel s)

/-- BCS: C = 1 (R266). -/
def execBcs (rel : Byte) (s : State) : Host.Outcome State Fault Refusal :=
  .next (runBranch (.bcs rel) s.p.c rel s)

/-- BNE: Z = 0 (R267). -/
def execBne (rel : Byte) (s : State) : Host.Outcome State Fault Refusal :=
  .next (runBranch (.bne rel) (!s.p.z) rel s)

/-- BEQ: Z = 1 (R268). -/
def execBeq (rel : Byte) (s : State) : Host.Outcome State Fault Refusal :=
  .next (runBranch (.beq rel) s.p.z rel s)

/-- JMP (R269): the pointer read of the indirect form comes before the PC advance (R133). -/
def execJmp (t : JumpTarget) (s : State) : Host.Outcome State Fault Refusal :=
  let r := resolveJump t s
  .next (finish (.jmp t) 0 ((advance (.jmp t) r.2).setPc r.1))

/-- JSR (R270): the address of its last byte is pushed, high byte first, and both operand bytes were fetched before (I21). -/
def execJsr (a : Addr) (s : State) : Host.Outcome State Fault Refusal :=
  .next (runImplied (.jsr a) (fun t => (pushWord (t.pc - 1) t).setPc a) s)

/-- RTS (R271): the pulled address plus 1. -/
def execRts (s : State) : Host.Outcome State Fault Refusal :=
  .next (runImplied .rts (fun t => (pullWord t).2.setPc ((pullWord t).1 + 1)) s)

end Sys2Proof.Machine
end

