-- ==== Sys2Proof/Machine/LoadStore.lean ====
section
/-! DEFINITION. Loads, stores and register transfers (spec/41_load_store_transfer.md R170–R182). -/

namespace Sys2Proof.Machine

/-- LDA (R171). -/
def execLda (o : Source) (s : State) : Host.Outcome State Fault Refusal :=
  .next (runRead (.lda o) o (fun v t => (t.setA v).setNZ v) s)

/-- LDX (R172). -/
def execLdx (o : Source) (s : State) : Host.Outcome State Fault Refusal :=
  .next (runRead (.ldx o) o (fun v t => (t.setX v).setNZ v) s)

/-- LDY (R173). -/
def execLdy (o : Source) (s : State) : Host.Outcome State Fault Refusal :=
  .next (runRead (.ldy o) o (fun v t => (t.setY v).setNZ v) s)

/-- STA (R174). -/
def execSta (m : Addressing) (s : State) : Host.Outcome State Fault Refusal :=
  .next (runStore (.sta m) m State.a s)

/-- STX (R175). -/
def execStx (m : Addressing) (s : State) : Host.Outcome State Fault Refusal :=
  .next (runStore (.stx m) m State.x s)

/-- STY (R176). -/
def execSty (m : Addressing) (s : State) : Host.Outcome State Fault Refusal :=
  .next (runStore (.sty m) m State.y s)

/-- TAX (R177). -/
def execTax (s : State) : Host.Outcome State Fault Refusal :=
  .next (runImplied .tax (fun t => (t.setX t.a).setNZ t.a) s)

/-- TAY (R178). -/
def execTay (s : State) : Host.Outcome State Fault Refusal :=
  .next (runImplied .tay (fun t => (t.setY t.a).setNZ t.a) s)

/-- TXA (R179). -/
def execTxa (s : State) : Host.Outcome State Fault Refusal :=
  .next (runImplied .txa (fun t => (t.setA t.x).setNZ t.x) s)

/-- TYA (R180). -/
def execTya (s : State) : Host.Outcome State Fault Refusal :=
  .next (runImplied .tya (fun t => (t.setA t.y).setNZ t.y) s)

/-- TSX (R181). -/
def execTsx (s : State) : Host.Outcome State Fault Refusal :=
  .next (runImplied .tsx (fun t => (t.setX t.sp).setNZ t.sp) s)

/-- TXS (R182): the only transfer that leaves N and Z unchanged. -/
def execTxs (s : State) : Host.Outcome State Fault Refusal :=
  .next (runImplied .txs (fun t => t.setSp t.x) s)

end Sys2Proof.Machine
end

