-- ==== Sys2Proof/Machine/Shift.lean ====
section
/-! DEFINITION. Shifts and rotates, on A or on memory (spec/43_shift_rotate.md R240–R244). -/

namespace Sys2Proof.Machine

/-- ASL (R241). -/
def execAsl (t : Target) (s : State) : Host.Outcome State Fault Refusal :=
  .next (runModify (.asl t) t shiftLeft (fun r c u => (u.setC c).setNZ r) s)

/-- LSR (R242). -/
def execLsr (t : Target) (s : State) : Host.Outcome State Fault Refusal :=
  .next (runModify (.lsr t) t shiftRight (fun r c u => (u.setC c).setNZ r) s)

/-- ROL (R243). -/
def execRol (t : Target) (s : State) : Host.Outcome State Fault Refusal :=
  .next (runModify (.rol t) t rotateLeft (fun r c u => (u.setC c).setNZ r) s)

/-- ROR (R244). -/
def execRor (t : Target) (s : State) : Host.Outcome State Fault Refusal :=
  .next (runModify (.ror t) t rotateRight (fun r c u => (u.setC c).setNZ r) s)

end Sys2Proof.Machine
end

