-- ==== Sys2Proof/Machine/StackSystem.lean ====
section
/-! DEFINITION. Stack, status flags and system instructions (spec/45_stack_flags_system.md R293–R306), and the
opcode without a descriptor (spec/60_exceptions.md R401). -/

namespace Sys2Proof.Machine

/-- PHA (R293). -/
def execPha (s : State) : Host.Outcome State Fault Refusal :=
  .next (runImplied .pha (fun t => push t.a t) s)

/-- PLA (R294). -/
def execPla (s : State) : Host.Outcome State Fault Refusal :=
  .next (runImplied .pla (fun t => ((pull t).2.setA (pull t).1).setNZ (pull t).1) s)

/-- PHP (R295): bit 4 is pushed as 1. -/
def execPhp (s : State) : Host.Outcome State Fault Refusal :=
  .next (runImplied .php (fun t => push (t.p.pushed true) t) s)

/-- PLP (R296). -/
def execPlp (s : State) : Host.Outcome State Fault Refusal :=
  .next (runImplied .plp (fun t => (pull t).2.setP (Status.pulled (pull t).1)) s)

/-- CLC (R297): C only. -/
def execClc (s : State) : Host.Outcome State Fault Refusal :=
  .next (runImplied .clc (fun t => t.setC false) s)

/-- SEC (R298): C only. -/
def execSec (s : State) : Host.Outcome State Fault Refusal :=
  .next (runImplied .sec (fun t => t.setC true) s)

/-- CLI (R299): I only. -/
def execCli (s : State) : Host.Outcome State Fault Refusal :=
  .next (runImplied .cli (fun t => t.setI false) s)

/-- SEI (R300): I only. -/
def execSei (s : State) : Host.Outcome State Fault Refusal :=
  .next (runImplied .sei (fun t => t.setI true) s)

/-- CLD (R301): D only. -/
def execCld (s : State) : Host.Outcome State Fault Refusal :=
  .next (runImplied .cld (fun t => t.setD false) s)

/-- SED (R302): D only. -/
def execSed (s : State) : Host.Outcome State Fault Refusal :=
  .next (runImplied .sed (fun t => t.setD true) s)

/-- CLV (R303): V only. -/
def execClv (s : State) : Host.Outcome State Fault Refusal :=
  .next (runImplied .clv (fun t => t.setV false) s)

/-- NOP (R304). -/
def execNop (s : State) : Host.Outcome State Fault Refusal :=
  .next (runImplied .nop id s)

/-- BRK (R305): takes the exception itself, whatever I holds. The return address skips the padding byte. -/
def execBrk (s : State) : Host.Outcome State Fault Refusal :=
  .next (runImplied .brk (fun t => interruptEntry (t.pc + 1) true irqVector t) s)

/-- RTI (R306). -/
def execRti (s : State) : Host.Outcome State Fault Refusal :=
  .next (runImplied .rti interruptReturn s)

/-- An opcode without a descriptor (R401): the run state becomes Halted with the opcode and its address. PC stays at the
opcode, no register, flag or memory byte changes, and the budget is left as it is (0 at a boundary). -/
def execUndefined (op : Byte) (s : State) : Host.Outcome State Fault Refusal :=
  .next (s.setRun (.halted (.undefinedInstruction op s.pc)))

end Sys2Proof.Machine
end

