-- ==== Sys2Proof/Machine/Unofficial.lean ====
section
/-! DEFINITION. The admitted subset U of undocumented opcodes (spec/46_unofficial.md R330–R340). Whether U is
admitted at all is decided at the fetch (R133, R330). -/

namespace Sys2Proof.Machine

/-- NOP, undocumented forms (R331): a memory operand is read and discarded, with the read's side effects; IMP and IMM
only advance the PC. -/
def execNopU (op : Byte) (o : NopOperand) (s : State) : Host.Outcome State Fault Refusal :=
  match o with
  | .imp => .next (runImplied (.nopU op .imp) id s)
  | .imm b => .next (runRead (.nopU op (.imm b)) (.imm b) (fun _ t => t) s)
  | .mem m => .next (runRead (.nopU op (.mem m)) (.mem m) (fun _ t => t) s)

/-- LAX (R332). -/
def execLax (m : Addressing) (s : State) : Host.Outcome State Fault Refusal :=
  .next (runRead (.lax m) (.mem m) (fun v t => ((t.setA v).setX v).setNZ v) s)

/-- SAX (R333). -/
def execSax (m : Addressing) (s : State) : Host.Outcome State Fault Refusal :=
  .next (runStore (.sax m) m (fun t => t.a &&& t.x) s)

/-- SBC of opcode EB (R334). -/
def execSbcU (b : Byte) (s : State) : Host.Outcome State Fault Refusal :=
  .next (runRead (.sbcU b) (.imm b) (fun v t => t.subFromA v) s)

/-- SLO (R335): ASL, then ORA. -/
def execSlo (m : Addressing) (s : State) : Host.Outcome State Fault Refusal :=
  .next (runModify (.slo m) (.mem m) shiftLeft (fun r c t => ((t.setC c).setA (t.a ||| r)).setNZ (t.a ||| r)) s)

/-- RLA (R336): ROL, then AND. -/
def execRla (m : Addressing) (s : State) : Host.Outcome State Fault Refusal :=
  .next (runModify (.rla m) (.mem m) rotateLeft (fun r c t => ((t.setC c).setA (t.a &&& r)).setNZ (t.a &&& r)) s)

/-- SRE (R337): LSR, then EOR. -/
def execSre (m : Addressing) (s : State) : Host.Outcome State Fault Refusal :=
  .next (runModify (.sre m) (.mem m) shiftRight (fun r c t => ((t.setC c).setA (t.a ^^^ r)).setNZ (t.a ^^^ r)) s)

/-- RRA (R338): ROR, then ADC with the carry out of the rotate. -/
def execRra (m : Addressing) (s : State) : Host.Outcome State Fault Refusal :=
  .next (runModify (.rra m) (.mem m) rotateRight (fun r c t => (t.setC c).addToA r) s)

/-- DCP (R339): DEC, then CMP. -/
def execDcp (m : Addressing) (s : State) : Host.Outcome State Fault Refusal :=
  .next (runModify (.dcp m) (.mem m) decrement (fun r _ t => t.compare t.a r) s)

/-- ISB (R340): INC, then SBC. -/
def execIsb (m : Addressing) (s : State) : Host.Outcome State Fault Refusal :=
  .next (runModify (.isb m) (.mem m) increment (fun r _ t => t.subFromA r) s)

end Sys2Proof.Machine
end

