-- ==== Sys2Proof/Machine/Fetch.lean ====
section
/-! DEFINITION. Fetching an instruction (spec/40_execution_addressing.md R133, spec/30_encoding.md R100, R109,
spec/20_memory.md R85), and placing one where the next fetch finds it. -/

namespace Sys2Proof.Machine

/-- An instruction and the state after its bytes are read. -/
structure Fetched where
  instr : Instr
  state : State
  deriving DecidableEq, Repr

/-- The first lines of `ExecuteOne` (R133): the opcode byte at PC, then, if the opcode is admitted, exactly its operand
bytes, each one bus read. An opcode that is not admitted is `undefined`, and no operand byte of it is read (R401). -/
def fetch (s : State) : Fetched :=
  let op := memRead s.pc s
  let shape := instrOf op.1 0 0
  if shape.admitted s.config.unofficial then
    match shape.operandLength with
    | 0 => { instr := shape, state := op.2 }
    | 1 =>
      let b1 := memRead (s.pc + 1) op.2
      { instr := instrOf op.1 b1.1 0, state := b1.2 }
    | _ =>
      let b1 := memRead (s.pc + 1) op.2
      let b2 := memRead (s.pc + 2) b1.2
      { instr := instrOf op.1 b1.1 b2.1, state := b2.2 }
  else { instr := .undefined op.1, state := op.2 }

/-- The address lies in the register window, so a fetch there would not read memory (R54, R85). -/
def inWindow (a : Addr) : Bool := (shimReg a).isSome

/-- `s` with three bytes where the next tick fetches them: at PC, in the backing storage. If one of the three addresses
lies in the register window, where no storage answers a fetch, PC is put at 0x0600 first. -/
def placeBytes (b0 b1 b2 : Byte) (s : State) : State :=
  let pc : Addr := if inWindow s.pc || inWindow (s.pc + 1) || inWindow (s.pc + 2) then 0x0600 else s.pc
  let m0 := s.cpuMem.write pc.toNat b0
  let m1 := m0.write (pc + 1).toNat b1
  (s.setPc pc).setCpuMem (m1.write (pc + 2).toNat b2)

/-- `s` at a boundary that services nothing: running, no budget left, no request, no event before the next tick. -/
def readyToFetch (s : State) : State :=
  let t := ((s.setRun .running).setBudget 0).setResetPending false
  ((t.setNmiPending false).setIrqLine false).setHostEvents []

/-- `s` with an instruction as its next one: its bytes where the fetch finds them, and nothing in the way of the fetch. -/
def placeInstruction (nbits w : Nat) (s : State) : State :=
  let v := w % 2 ^ nbits
  readyToFetch (placeBytes (BitVec.ofNat 8 v) (BitVec.ofNat 8 (v / 256)) (BitVec.ofNat 8 (v / 65536)) s)

end Sys2Proof.Machine
end

