-- ==== Sys2Proof/Machine/Interrupts.lean ====
section
/-! DEFINITION. The services of the interrupt and vector controller (spec/60_exceptions.md R425,
spec/70_reset_and_hazards.md R451), and what the other actors do between ticks (spec/20_memory.md R82,
spec/60_exceptions.md R412, R413, spec/70_reset_and_hazards.md R452). -/

namespace Sys2Proof.Machine

/-- What a service leaves in the budget: it occupies 7 ticks, its own among them (R132, R471). -/
def serviceBudget : Nat := 7 - 1

/-- `ServiceNMI()` (R425). -/
def serviceNmi (s : State) : State := interruptEntry s.pc false nmiVector (s.setNmiPending false)

/-- `ServiceIRQ()` (R425): the line is not cleared (R413). -/
def serviceIrq (s : State) : State := interruptEntry s.pc false irqVector s

/-- The stack part of the reset service (R451): three pushes, or only `SP - 3` when `P_RESET_PUSHES` is false. -/
def resetStack (s : State) : State :=
  if s.config.resetPushes then push (s.p.pushed false) (pushWord s.pc s)
  else s.setSp (s.sp - 3)

/-- `ServiceReset()` (R451). -/
def serviceReset (s : State) : State :=
  let t := resetStack (s.setResetPending false)
  let u := jumpThrough resetVector (t.setI true)
  (u.setShim { u.shim with ctrl := 0x00, mask := 0x00, w := false }).setNmiPending false

/-- `VBlankStart()` (R412). -/
def vblankStart (s : State) : State :=
  (s.setShim { s.shim with vblank := true }).setNmiPending (s.nmiPending || s.shim.ctrl.getLsbD 7)

/-- `VBlankEnd()` (R412, D35). -/
def vblankEnd (s : State) : State := s.setShim { s.shim with vblank := false }

/-- One event of another actor (R82). A reset request to a halted engine has no effect (R452). -/
def applyEvent (e : HostEvent) (s : State) : State :=
  match e with
  | .vblankStart => vblankStart s
  | .vblankEnd => vblankEnd s
  | .irqLevel high => s.setIrqLine high
  | .resetRequest => s.setResetPending (s.resetPending || decide (s.run = .running))

/-- The events of one batch, in the order they stand. -/
def applyEvents : List HostEvent → State → State
  | [], s => s
  | e :: es, s => applyEvents es (applyEvent e s)

/-- What happens between the last tick and the next one (R82, R154): the first batch of the input script, if there is
one, is taken off it and applied. -/
def deliver (s : State) : State :=
  match s.hostEvents with
  | [] => s
  | batch :: rest => applyEvents batch (s.setHostEvents rest)

end Sys2Proof.Machine
end

