-- ==== Sys2Proof/Machine/Boundary.lean ====
section
/-! DEFINITION. One tick of the engine (spec/40_execution_addressing.md R131–R133, spec/60_exceptions.md R420). -/

namespace Sys2Proof.Machine

/-- `ExecuteOne()` (R133). -/
def executeOne (s : State) : Host.Outcome State Fault Refusal :=
  let f := fetch s
  exec f.instr f.state

/-- `Boundary()` (R132, R420): the first request present is serviced; if there is none, the instruction at PC runs. -/
def boundary (s : State) : Host.Outcome State Fault Refusal :=
  if s.resetPending then .next ((serviceReset s).setBudget serviceBudget)
  else if s.nmiPending then .next ((serviceNmi s).setBudget serviceBudget)
  else if s.irqLine && !s.p.i then .next ((serviceIrq s).setBudget serviceBudget)
  else executeOne s

/-- `tick()` (R131). -/
def tick (s : State) : Host.Outcome State Fault Refusal :=
  match s.run with
  | .halted _ => .next s
  | .running =>
    if 0 < s.budget then .next (s.setBudget (s.budget - 1))
    else boundary s

end Sys2Proof.Machine
end

