-- ==== Sys2Proof/Machine/Step.lean ====
section
/-! DEFINITION. One step of the machine: what the other actors do before a tick (spec/20_memory.md R82), then the tick
(spec/40_execution_addressing.md R130, R131). -/

namespace Sys2Proof.Machine

/-- One step is one tick of the engine, after the batch of host events that lies before it (log 1, log 2). -/
def step (s : State) : Host.Outcome State Fault Refusal := tick (deliver s)

/-- `s` with the instruction of the table word `w` where the next step fetches and runs it (log 7). -/
def State.withFetchWord (s : State) (nbits w : Nat) : State := placeInstruction nbits w s

end Sys2Proof.Machine
end

