-- ==== Sys2Proof/Machine/InstructionStep.lean ====
section
/-! DEFINITION. The instruction-level step (spec/40_execution_addressing.md R154): ticks from a boundary to the next one, and
the machine in which the events of the other actors happen at boundaries only. Both stand beside the step, which stays one
tick. -/

namespace Sys2Proof.Machine

/-- Run ticks until the next one is a boundary or the engine is Halted, at most `fuel` of them (R154). -/
def runToBoundary : Nat → State → Host.Outcome State Fault Refusal
  | 0, s => .next s
  | fuel + 1, s =>
    match s.run with
    | .halted _ => .next s
    | .running =>
      if s.budget = 0 then .next s
      else
        match step s with
        | .next t => runToBoundary fuel t
        | .fault r => .fault r
        | .refused r => .refused r

/-- `Step(s)` (R154): the tick of a boundary, then the ticks until the next boundary or Halted. The budget that the boundary
leaves is the number of ticks before the next one (R153), so it is fuel enough. Log 16 says what this is away from a boundary. -/
def instructionStep (s : State) : Host.Outcome State Fault Refusal :=
  match step s with
  | .next b => runToBoundary b.budget b
  | .fault r => .fault r
  | .refused r => .refused r

/-- The machine whose steps are the instruction-level ones. -/
def instructionCore : Host.Core :=
  { State := State, Fault := Fault, Refusal := Refusal, step := instructionStep, reset := State.reset }

/-- The instruction-level model of R154's last sentence: events at a boundary, the boundary, and no ticks to count down. For a
state with no budget left. -/
def boundaryStep (events : List HostEvent) (s : State) : Host.Outcome State Fault Refusal :=
  match tick (applyEvents events s) with
  | .next b => .next (b.setBudget 0)
  | .fault r => .fault r
  | .refused r => .refused r

/-- One `boundaryStep` for each batch of events. -/
def boundaryRun : List (List HostEvent) → State → Host.Outcome State Fault Refusal
  | [], s => .next s
  | events :: later, s =>
    match boundaryStep events s with
    | .next t => boundaryRun later t
    | .fault r => .fault r
    | .refused r => .refused r

end Sys2Proof.Machine
end

