-- ==== Sys2Proof/Machine/Cartridge.lean ====
section
/-! DEFINITION. The cartridge header, the mapper of id 0, and the boot of a session (spec/20_memory.md R74–R80,
spec/60_exceptions.md R402, R403, spec/70_reset_and_hazards.md R454). Loading happens before a session runs; it is no
step of the machine. -/

namespace Sys2Proof.Machine

/-- Sizes in bytes (R74): the header, a program-ROM bank, a pattern-ROM bank. -/
def headerSize : Nat := 16
def prgBankSize : Nat := 16384
def chrBankSize : Nat := 8192

/-- A header byte. An image too short to hold it has none, and 0x00 stands for it (log 9). -/
def headerByte (image : List Byte) (n : Nat) : Byte := image.getD n 0x00

/-- `mapper_id = (image[7] & 0xF0) | (image[6] >> 4)` (R75). -/
def mapperIdOf (image : List Byte) : Byte := (headerByte image 7 &&& 0xF0) ||| (headerByte image 6 >>> 4)

/-- The cartridge state that a header gives (R74, R75). -/
def parseHeader (image : List Byte) : Cartridge where
  image := image
  prgBanks := headerByte image 4
  chrBanks := headerByte image 5
  mapperId := mapperIdOf image

/-- PRG: the bytes of the program-ROM (R74). -/
def Cartridge.programRom (c : Cartridge) : List Byte :=
  (c.image.drop headerSize).take (prgBankSize * c.prgBanks.toNat)

/-- CHR: the bytes of the pattern-ROM, which follows the program-ROM (R74). -/
def Cartridge.patternRom (c : Cartridge) : List Byte :=
  (c.image.drop (headerSize + prgBankSize * c.prgBanks.toNat)).take (chrBankSize * c.chrBanks.toNat)

/-- The bytes a mapper-0 image needs (R77). -/
def Cartridge.neededLength (c : Cartridge) : Nat :=
  headerSize + prgBankSize * c.prgBanks.toNat + chrBankSize * c.chrBanks.toNat

/-- The checks of a load, in order: the mapper id (R76, R402), then what R77 refuses (R403). -/
def loadError (c : Cartridge) : Option Fault :=
  if c.mapperId ≠ 0 then some (.mapperUnsupported c.mapperId)
  else if !(c.prgBanks == 1 || c.prgBanks == 2) || !(c.chrBanks == 0 || c.chrBanks == 1) then
    some (.imageUnsupported .bankCount)
  else if c.image.length < c.neededLength then some (.imageUnsupported .length)
  else none

/-- The program-ROM projection (R78): one bank at both bases, or the first bank at 0x8000 and the second at 0xC000. -/
def projectProgram (c : Cartridge) (m : Memory) : Memory :=
  if c.prgBanks == 1 then
    Memory.copy c.programRom 0xC000 (Memory.copy c.programRom 0x8000 m)
  else
    Memory.copy (c.programRom.drop prgBankSize) 0xC000 (Memory.copy (c.programRom.take prgBankSize) 0x8000 m)

/-- The pattern-ROM projection (R79). -/
def projectPattern (c : Cartridge) (m : Memory) : Memory :=
  if c.chrBanks == 1 then Memory.copy c.patternRom 0x0000 m else m

/-- `loadRom(image)` (R74–R79). A load that fails writes nothing (R402, R403). -/
def loadRom (image : List Byte) (s : State) : Host.Outcome State Fault Refusal :=
  let c := parseHeader image
  match loadError c with
  | some e => .fault e
  | none => .next (((s.setCart c).setCpuMem (projectProgram c s.cpuMem)).setPpuMem (projectPattern c s.ppuMem))

/-- The boot of a session with parameters `cfg` (R454): a new session in the power-on state, with zero memory, and the
image loaded into it. -/
def boot (cfg : Config) (image : List Byte) : Host.Outcome State Fault Refusal :=
  loadRom image { State.reset with config := cfg }

end Sys2Proof.Machine
end

