-- ==== Sys2Proof/Safety.lean ====
section
/-! DEFINITION. The terms in which claims speak of runs: a boundary, a state that keeps the machine's invariants, and the
steps at which the NMOS chip is known to differ from the specified CORE (spec/20_memory.md R87, spec/93_implementation_defined.md
I21). -/

namespace Sys2Proof.Machine

/-- The next tick is a boundary (R131): the engine runs and its budget is used up. -/
def AtBoundary (s : State) : Prop := s.run = .running ∧ s.budget = 0

/-- No request is serviced at this boundary (R420): the instruction at PC runs. -/
def NoRequest (s : State) : Prop := s.resetPending = false ∧ s.nmiPending = false ∧ (s.irqLine = false ∨ s.p.i = true)

/-- The bytes of an instruction at an address lie outside the register window, so fetching them reads plain storage. -/
def OutsideWindow (a : Addr) (n : Nat) : Prop := ∀ k < n, shimReg (a + BitVec.ofNat 16 k) = none

/-- `n` bytes of `cpu_mem` from an address on, the address wrapping at 0xFFFF (R62). -/
def bytesAt (s : State) (a : Addr) : Nat → List Byte
  | 0 => []
  | n + 1 => s.cpuMem.read a.toNat :: bytesAt s (a + 1) n

/-- What a halted engine has recorded (R401): an opcode the configuration does not admit, at the PC, with no budget. -/
def HaltedAsRecorded (s : State) : Prop :=
  ∀ reason, s.run = .halted reason →
    ∃ op, reason = .undefinedInstruction op s.pc ∧ (instrOf op 0 0).admitted s.config.unofficial = false ∧ s.budget = 0

/-- The machine's invariant: both memories in canonical form (R37), B held 0 in the register (R28), a budget that some
instruction or service can leave (R153, R470: at most 8 ticks), and a halt that records what R401 says. -/
structure Inv (s : State) : Prop where
  cpuMem : s.cpuMem.wf cpuMemSize = true
  ppuMem : s.ppuMem.wf ppuMemSize = true
  breakClear : s.p.b = false
  budget : s.budget ≤ 7
  halted : HaltedAsRecorded s

/-- The unindexed address of an indexed operand and its index (R146, R147, R150). -/
def indexedBase (m : Addressing) (s : State) : Option (Addr × Byte) :=
  match m with
  | .abx a => some (a, s.x)
  | .aby a => some (a, s.y)
  | .izy b => some ((read16Zp b s).1, s.y)
  | _ => none

/-- How an instruction uses its memory operand. -/
inductive Use where
  | reads | stores | modifies
  deriving DecidableEq, Repr

/-- The memory operand of a source operand, which is read. -/
def sourceUse (o : Source) : Option (Addressing × Use) :=
  match o with
  | .imm _ => none
  | .mem m => some (m, .reads)

/-- The memory operand of a shift's operand, which is modified. -/
def targetUse (t : Target) : Option (Addressing × Use) :=
  match t with
  | .acc => none
  | .mem m => some (m, .modifies)

/-- The memory operand of an undocumented NOP, which is read. -/
def nopUse (o : NopOperand) : Option (Addressing × Use) :=
  match o with
  | .imp | .imm _ => none
  | .mem m => some (m, .reads)

/-- The memory operand of an instruction and its use of it. -/
def memoryUse : Instr → Option (Addressing × Use)
  | .lda o | .ldx o | .ldy o | .adc o | .sbc o | .and o | .ora o | .eor o | .cmp o | .cpx o | .cpy o => sourceUse o
  | .bit m | .lax m => some (m, .reads)
  | .nopU _ o => nopUse o
  | .sta m | .stx m | .sty m | .sax m => some (m, .stores)
  | .asl t | .lsr t | .rol t | .ror t => targetUse t
  | .inc m | .dec m | .slo m | .rla m | .sre m | .rra m | .dcp m | .isb m => some (m, .modifies)
  | .tax | .tay | .txa | .tya | .tsx | .txs | .inx | .iny | .dex | .dey | .bpl _ | .bmi _ | .bvc _ | .bvs _ | .bcc _
  | .bcs _ | .bne _ | .beq _ | .jmp _ | .jsr _ | .rts | .pha | .pla | .php | .plp | .clc | .sec | .cli | .sei | .cld
  | .sed | .clv | .nop | .brk | .rti | .sbcU _ | .undefined _ => none

/-- `DummyTouchesIO(instr)` (R87, D24): a step at which an extra bus access of the NMOS chip, which the CORE does not
make, would reach the register window. A claim that is to hold of the chip too is stated for steps without it. -/
def dummyTouchesIO (i : Instr) (s : State) : Bool :=
  match memoryUse i with
  | none => false
  | some (m, use) =>
    let e := effective m s
    let indexed := match indexedBase m s with
      | some (base, index) => (use != .reads || e.cross) && inWindow (word (loByte (base + zext index)) (hiByte base))
      | none => false
    indexed || (use == .modifies && inWindow e.ea)

/-- A JSR whose pushes would overwrite the JSR's own bytes (I21): there the chip, which fetches the target's high byte
after the pushes, can differ from the CORE. -/
def pushesOverwriteJsr (i : Instr) (s : State) : Bool :=
  match i with
  | .jsr _ => [stackAddr s.sp, stackAddr (s.sp - 1)].any fun a => [s.pc, s.pc + 1, s.pc + 2].contains a
  | _ => false

end Sys2Proof.Machine
end

