-- ==== Sys2Proof/Certificates/Slice0/Obligations.lean ====
section
/-! DEFINITION. The statements for the provers, and the vocabulary they are written in. A statement about an instruction
gives its whole next state: what the state literal does not name is left as it was, so the statement is also its frame. -/

namespace Sys2Proof.Claims

open Sys2Proof.Machine

/-! ### Vocabulary -/

/-- `exec` answers the next state `t`, with PC after the instruction (R133) and the budget that its base cycles and `extra`
leave (R153). -/
def Completes (i : Instr) (s : State) (extra : Nat) (t : State) : Prop :=
  exec i s = .next { t with pc := s.pc + BitVec.ofNat 16 (encode i).length, budget := i.baseCycles + extra - 1 }

/-- `exec` answers the next state `t`, with PC at `target` and the budget that its base cycles and `extra` leave. -/
def JumpsTo (i : Instr) (s : State) (extra : Nat) (target : Addr) (t : State) : Prop :=
  exec i s = .next { t with pc := target, budget := i.baseCycles + extra - 1 }

/-- P with Z and N set from a byte (R30). -/
def nz (p : Status) (v : Byte) : Status := { p with z := v == 0, n := v.getLsbD 7 }

/-- P with C, Z and N set. -/
def cnz (p : Status) (c : Bool) (v : Byte) : Status := { p with c := c, z := v == 0, n := v.getLsbD 7 }

/-- P with C, Z, V and N set. -/
def cvnz (p : Status) (c v : Bool) (r : Byte) : Status := { p with c := c, z := r == 0, v := v, n := r.getLsbD 7 }

/-- The byte a memory operand gives, and the state after reading it (R134). -/
def memOperand (m : Addressing) (s : State) : Byte × State := memRead (effective m s).ea (effective m s).state

/-- The byte a source operand gives, and the state after reading it: the operand byte itself, with no second read (R134, R140), or
the byte of memory. -/
def operand (o : Source) (s : State) : Byte × State :=
  match o with
  | .imm b => (b, s)
  | .mem m => memOperand m s

/-- The page-cross penalty of a source operand (R151). -/
def crossed (o : Source) (s : State) : Nat :=
  match o with
  | .imm _ => 0
  | .mem m => if (effective m s).cross then 1 else 0

/-- The Encoding line of a rule: the instruction has exactly these modes, with these opcodes. -/
def HasForms {α : Type} (mode : α → Mode) (f : α → Instr) (codes : List (Mode × Byte)) : Prop :=
  ∀ o, (∀ c, (mode o, c) ∈ codes → (f o).wellFormed = true ∧ opcode (f o) = c) ∧
    ((∀ c, (mode o, c) ∉ codes) → (f o).wellFormed = false)

/-- The modes of an accumulator instruction with their opcodes in R105's order. -/
def eightForms (imm zp zpx abs abx aby izx izy : Byte) : List (Mode × Byte) :=
  [(.imm, imm), (.zp, zp), (.zpx, zpx), (.abs, abs), (.abx, abx), (.aby, aby), (.izx, izx), (.izy, izy)]

/-- The modes of an undocumented read-modify-write instruction with their opcodes in R106's order. -/
def sevenForms (zp zpx abs abx aby izx izy : Byte) : List (Mode × Byte) :=
  [(.zp, zp), (.zpx, zpx), (.abs, abs), (.abx, abx), (.aby, aby), (.izx, izx), (.izy, izy)]

/-- The modes of a shift with their opcodes. -/
def shiftForms (acc zp zpx abs abx : Byte) : List (Mode × Byte) :=
  [(.acc, acc), (.zp, zp), (.zpx, zpx), (.abs, abs), (.abx, abx)]

/-- A shift of either operand (R240): `res` gives the result and `out` the carry-out, from the operand and the old carry. -/
def ShiftRule (f : Target → Instr) (res : Byte → Bool → Byte) (out : Byte → Bool) : Prop :=
  (∀ s : State,
    Completes (f .acc) s 0 { s with a := res s.a s.p.c, p := cnz s.p (out s.a) (res s.a s.p.c) }) ∧
  (∀ (m : Addressing) (s : State),
    let rd := memOperand m s
    let r := res rd.1 s.p.c
    Completes (f (.mem m)) s 0 { memWrite (effective m s).ea r rd.2 with p := cnz s.p (out rd.1) r })

/-- A branch (R260): its encoding, its base cycles, and both outcomes for every offset. -/
def BranchRule (f : Byte → Instr) (op : Byte) (cond : Status → Bool) : Prop :=
  ∀ (rel : Byte) (s : State),
    let next := s.pc + 2
    let target := s.pc + 2 + BitVec.ofInt 16 rel.toInt
    encode (f rel) = [op, rel] ∧ (f rel).baseCycles = 2 ∧
    (cond s.p = false → JumpsTo (f rel) s 0 next s) ∧
    (cond s.p = true → JumpsTo (f rel) s (1 + if target.toNat / 256 = next.toNat / 256 then 0 else 1) target s)

/-- The number of the stack byte a stack pointer designates (R23). -/
def stackByte (sp : Byte) : Nat := 0x100 + sp.toNat

/-- `cpu_mem` after a 16-bit value is pushed, high byte first. -/
def pushedPair (w : Addr) (s : State) : Memory :=
  (s.cpuMem.write (stackByte s.sp) (hiByte w)).write (stackByte (s.sp - 1)) (loByte w)

/-- The state that an interrupt entry leaves (R425), `vector` being the number of the vector's low byte. -/
def entered (ret : Addr) (b : Bool) (vector : Nat) (s : State) : State :=
  { s with
    sp := s.sp - 3
    cpuMem := (pushedPair ret s).write (stackByte (s.sp - 2)) (s.p.pushed b)
    p := { s.p with i := true }
    pc := word (s.cpuMem.read vector) (s.cpuMem.read (vector + 1)) }

/-- A 0x2007 access moves the pointer by this (R71). -/
def nextVram (s : State) : PpuAddr := s.shim.vramAddr + BitVec.ofNat 14 (if s.shim.ctrl.getLsbD 2 then 32 else 1)

/-! ### Which instructions write what, as the rules of 10_state.md list them -/

/-- R21: the writers of A. -/
def writesA : Instr → Bool
  | .lda _ | .txa | .tya | .pla | .adc _ | .sbc _ | .sbcU _ | .and _ | .ora _ | .eor _ => true
  | .asl t | .lsr t | .rol t | .ror t => t.mode == .acc
  | .lax _ | .slo _ | .rla _ | .sre _ | .rra _ | .isb _ => true
  | .ldx _ | .ldy _ | .sta _ | .stx _ | .sty _ | .tax | .tay | .tsx | .txs | .cmp _ | .cpx _ | .cpy _ | .bit _
  | .inc _ | .dec _ | .inx | .iny | .dex | .dey | .bpl _ | .bmi _ | .bvc _ | .bvs _ | .bcc _ | .bcs _ | .bne _
  | .beq _ | .jmp _ | .jsr _ | .rts | .pha | .php | .plp | .clc | .sec | .cli | .sei | .cld | .sed | .clv | .nop
  | .brk | .rti | .nopU _ _ | .sax _ | .dcp _ | .undefined _ => false

/-- R22: the writers of X. -/
def writesX : Instr → Bool
  | .ldx _ | .tax | .tsx | .inx | .dex | .lax _ => true
  | .lda _ | .ldy _ | .sta _ | .stx _ | .sty _ | .tay | .txa | .tya | .txs | .adc _ | .sbc _ | .and _ | .ora _
  | .eor _ | .cmp _ | .cpx _ | .cpy _ | .bit _ | .inc _ | .dec _ | .iny | .dey | .asl _ | .lsr _ | .rol _ | .ror _
  | .bpl _ | .bmi _ | .bvc _ | .bvs _ | .bcc _ | .bcs _ | .bne _ | .beq _ | .jmp _ | .jsr _ | .rts | .pha | .pla
  | .php | .plp | .clc | .sec | .cli | .sei | .cld | .sed | .clv | .nop | .brk | .rti | .nopU _ _ | .sax _ | .sbcU _
  | .slo _ | .rla _ | .sre _ | .rra _ | .dcp _ | .isb _ | .undefined _ => false

/-- R22: the writers of Y. -/
def writesY : Instr → Bool
  | .ldy _ | .tay | .iny | .dey => true
  | .lda _ | .ldx _ | .sta _ | .stx _ | .sty _ | .tax | .txa | .tya | .tsx | .txs | .adc _ | .sbc _ | .and _ | .ora _
  | .eor _ | .cmp _ | .cpx _ | .cpy _ | .bit _ | .inc _ | .dec _ | .inx | .dex | .asl _ | .lsr _ | .rol _ | .ror _
  | .bpl _ | .bmi _ | .bvc _ | .bvs _ | .bcc _ | .bcs _ | .bne _ | .beq _ | .jmp _ | .jsr _ | .rts | .pha | .pla
  | .php | .plp | .clc | .sec | .cli | .sei | .cld | .sed | .clv | .nop | .brk | .rti | .nopU _ _ | .lax _ | .sax _
  | .sbcU _ | .slo _ | .rla _ | .sre _ | .rra _ | .dcp _ | .isb _ | .undefined _ => false

/-- R23: the writers of SP. -/
def writesSp : Instr → Bool
  | .txs | .pha | .pla | .php | .plp | .jsr _ | .rts | .rti | .brk => true
  | .lda _ | .ldx _ | .ldy _ | .sta _ | .stx _ | .sty _ | .tax | .tay | .txa | .tya | .tsx | .adc _ | .sbc _ | .and _
  | .ora _ | .eor _ | .cmp _ | .cpx _ | .cpy _ | .bit _ | .inc _ | .dec _ | .inx | .iny | .dex | .dey | .asl _
  | .lsr _ | .rol _ | .ror _ | .bpl _ | .bmi _ | .bvc _ | .bvs _ | .bcc _ | .bcs _ | .bne _ | .beq _ | .jmp _ | .clc
  | .sec | .cli | .sei | .cld | .sed | .clv | .nop | .nopU _ _ | .lax _ | .sax _ | .sbcU _ | .slo _ | .rla _ | .sre _
  | .rra _ | .dcp _ | .isb _ | .undefined _ => false

/-- R26, R32: the writers of C. -/
def writesC : Instr → Bool
  | .adc _ | .sbc _ | .sbcU _ | .rra _ | .isb _ | .cmp _ | .cpx _ | .cpy _ | .dcp _ => true
  | .asl _ | .lsr _ | .rol _ | .ror _ | .slo _ | .rla _ | .sre _ | .clc | .sec | .plp | .rti => true
  | .lda _ | .ldx _ | .ldy _ | .sta _ | .stx _ | .sty _ | .tax | .tay | .txa | .tya | .tsx | .txs | .and _ | .ora _
  | .eor _ | .bit _ | .inc _ | .dec _ | .inx | .iny | .dex | .dey | .bpl _ | .bmi _ | .bvc _ | .bvs _ | .bcc _
  | .bcs _ | .bne _ | .beq _ | .jmp _ | .jsr _ | .rts | .pha | .pla | .php | .cli | .sei | .cld | .sed | .clv | .nop
  | .brk | .nopU _ _ | .lax _ | .sax _ | .undefined _ => false

/-- R32: the writers of Z and of N. -/
def writesNZ : Instr → Bool
  | .lda _ | .ldx _ | .ldy _ | .tax | .tay | .txa | .tya | .tsx | .pla | .and _ | .ora _ | .eor _ => true
  | .inc _ | .dec _ | .inx | .iny | .dex | .dey | .lax _ | .bit _ => true
  | .adc _ | .sbc _ | .sbcU _ | .rra _ | .isb _ | .cmp _ | .cpx _ | .cpy _ | .dcp _ => true
  | .asl _ | .lsr _ | .rol _ | .ror _ | .slo _ | .rla _ | .sre _ | .plp | .rti => true
  | .sta _ | .stx _ | .sty _ | .txs | .bpl _ | .bmi _ | .bvc _ | .bvs _ | .bcc _ | .bcs _ | .bne _ | .beq _ | .jmp _
  | .jsr _ | .rts | .pha | .php | .clc | .sec | .cli | .sei | .cld | .sed | .clv | .nop | .brk | .nopU _ _ | .sax _
  | .undefined _ => false

/-- R31, R32: the writers of I. -/
def writesI : Instr → Bool
  | .cli | .sei | .plp | .rti | .brk => true
  | .lda _ | .ldx _ | .ldy _ | .sta _ | .stx _ | .sty _ | .tax | .tay | .txa | .tya | .tsx | .txs | .adc _ | .sbc _
  | .and _ | .ora _ | .eor _ | .cmp _ | .cpx _ | .cpy _ | .bit _ | .inc _ | .dec _ | .inx | .iny | .dex | .dey
  | .asl _ | .lsr _ | .rol _ | .ror _ | .bpl _ | .bmi _ | .bvc _ | .bvs _ | .bcc _ | .bcs _ | .bne _ | .beq _
  | .jmp _ | .jsr _ | .rts | .pha | .pla | .php | .clc | .sec | .cld | .sed | .clv | .nop | .nopU _ _ | .lax _
  | .sax _ | .sbcU _ | .slo _ | .rla _ | .sre _ | .rra _ | .dcp _ | .isb _ | .undefined _ => false

/-- R27, R32: the writers of D. -/
def writesD : Instr → Bool
  | .cld | .sed | .plp | .rti => true
  | .lda _ | .ldx _ | .ldy _ | .sta _ | .stx _ | .sty _ | .tax | .tay | .txa | .tya | .tsx | .txs | .adc _ | .sbc _
  | .and _ | .ora _ | .eor _ | .cmp _ | .cpx _ | .cpy _ | .bit _ | .inc _ | .dec _ | .inx | .iny | .dex | .dey
  | .asl _ | .lsr _ | .rol _ | .ror _ | .bpl _ | .bmi _ | .bvc _ | .bvs _ | .bcc _ | .bcs _ | .bne _ | .beq _
  | .jmp _ | .jsr _ | .rts | .pha | .pla | .php | .clc | .sec | .cli | .sei | .clv | .nop | .brk | .nopU _ _ | .lax _
  | .sax _ | .sbcU _ | .slo _ | .rla _ | .sre _ | .rra _ | .dcp _ | .isb _ | .undefined _ => false

/-- R31, R32: the writers of V. -/
def writesV : Instr → Bool
  | .adc _ | .sbc _ | .sbcU _ | .rra _ | .isb _ | .bit _ | .clv | .plp | .rti => true
  | .lda _ | .ldx _ | .ldy _ | .sta _ | .stx _ | .sty _ | .tax | .tay | .txa | .tya | .tsx | .txs | .and _ | .ora _
  | .eor _ | .cmp _ | .cpx _ | .cpy _ | .inc _ | .dec _ | .inx | .iny | .dex | .dey | .asl _ | .lsr _ | .rol _
  | .ror _ | .bpl _ | .bmi _ | .bvc _ | .bvs _ | .bcc _ | .bcs _ | .bne _ | .beq _ | .jmp _ | .jsr _ | .rts | .pha
  | .pla | .php | .clc | .sec | .cli | .sei | .cld | .sed | .nop | .brk | .nopU _ _ | .lax _ | .sax _ | .slo _
  | .rla _ | .sre _ | .dcp _ | .undefined _ => false

/-- The instructions that transfer control (44_control_flow.md, R305, R306), and the one that halts at its own address. -/
def setsPc : Instr → Bool
  | .bpl _ | .bmi _ | .bvc _ | .bvs _ | .bcc _ | .bcs _ | .bne _ | .beq _ => true
  | .jmp _ | .jsr _ | .rts | .brk | .rti | .undefined _ => true
  | .lda _ | .ldx _ | .ldy _ | .sta _ | .stx _ | .sty _ | .tax | .tay | .txa | .tya | .tsx | .txs | .adc _ | .sbc _
  | .and _ | .ora _ | .eor _ | .cmp _ | .cpx _ | .cpy _ | .bit _ | .inc _ | .dec _ | .inx | .iny | .dex | .dey
  | .asl _ | .lsr _ | .rol _ | .ror _ | .pha | .pla | .php | .plp | .clc | .sec | .cli | .sei | .cld | .sed | .clv
  | .nop | .nopU _ _ | .lax _ | .sax _ | .sbcU _ | .slo _ | .rla _ | .sre _ | .rra _ | .dcp _ | .isb _ => false

/-- How many bytes an instruction pushes (R270, R293, R295, R305). -/
def pushes : Instr → Nat
  | .pha | .php => 1
  | .jsr _ => 2
  | .brk => 3
  | .lda _ | .ldx _ | .ldy _ | .sta _ | .stx _ | .sty _ | .tax | .tay | .txa | .tya | .tsx | .txs | .adc _ | .sbc _
  | .and _ | .ora _ | .eor _ | .cmp _ | .cpx _ | .cpy _ | .bit _ | .inc _ | .dec _ | .inx | .iny | .dex | .dey
  | .asl _ | .lsr _ | .rol _ | .ror _ | .bpl _ | .bmi _ | .bvc _ | .bvs _ | .bcc _ | .bcs _ | .bne _ | .beq _
  | .jmp _ | .rts | .pla | .plp | .clc | .sec | .cli | .sei | .cld | .sed | .clv | .nop | .rti | .nopU _ _ | .lax _
  | .sax _ | .sbcU _ | .slo _ | .rla _ | .sre _ | .rra _ | .dcp _ | .isb _ | .undefined _ => 0

/-- The condition and the offset of a branch (R261–R268). -/
def branchOf : Instr → Option ((Status → Bool) × Byte)
  | .bpl r => some (fun p => !p.n, r)
  | .bmi r => some (fun p => p.n, r)
  | .bvc r => some (fun p => !p.v, r)
  | .bvs r => some (fun p => p.v, r)
  | .bcc r => some (fun p => !p.c, r)
  | .bcs r => some (fun p => p.c, r)
  | .bne r => some (fun p => !p.z, r)
  | .beq r => some (fun p => p.z, r)
  | .lda _ | .ldx _ | .ldy _ | .sta _ | .stx _ | .sty _ | .tax | .tay | .txa | .tya | .tsx | .txs | .adc _ | .sbc _
  | .and _ | .ora _ | .eor _ | .cmp _ | .cpx _ | .cpy _ | .bit _ | .inc _ | .dec _ | .inx | .iny | .dex | .dey
  | .asl _ | .lsr _ | .rol _ | .ror _ | .jmp _ | .jsr _ | .rts | .pha | .pla | .php | .plp | .clc | .sec | .cli
  | .sei | .cld | .sed | .clv | .nop | .brk | .rti | .nopU _ _ | .lax _ | .sax _ | .sbcU _ | .slo _ | .rla _ | .sre _
  | .rra _ | .dcp _ | .isb _ | .undefined _ => none

/-- The extra cycles of a branch (R152). -/
def branchExtra (i : Instr) (s : State) : Nat :=
  match branchOf i with
  | none => 0
  | some (cond, rel) =>
    if cond s.p then 1 + (if hiByte (branchTarget s.pc rel) = hiByte (s.pc + 2) then 0 else 1) else 0

/-- 1 when the memory operand of an instruction crosses a page (R146, R147, R150), 0 when it does not or there is none. -/
def operandCross (i : Instr) (s : State) : Nat :=
  match memoryUse i with
  | some (m, _) => if (effective m s).cross then 1 else 0
  | none => 0

/-- The base cycle counts of R470, as its table lists them: opcode, cycles, and whether a `+` stands there; one line per mnemonic. -/
def cycleTable : List (Byte × Nat × Bool) :=
  [(0x61, 6, false), (0x65, 3, false), (0x69, 2, false), (0x6D, 4, false), (0x71, 5, true), (0x75, 4, false)] ++
  [(0x79, 4, true), (0x7D, 4, true)] ++
  [(0x21, 6, false), (0x25, 3, false), (0x29, 2, false), (0x2D, 4, false), (0x31, 5, true), (0x35, 4, false)] ++
  [(0x39, 4, true), (0x3D, 4, true)] ++
  [(0x06, 5, false), (0x0A, 2, false), (0x0E, 6, false), (0x16, 6, false), (0x1E, 7, false)] ++
  [(0x90, 2, false)] ++
  [(0xB0, 2, false)] ++
  [(0xF0, 2, false)] ++
  [(0x24, 3, false), (0x2C, 4, false)] ++
  [(0x30, 2, false)] ++
  [(0xD0, 2, false)] ++
  [(0x10, 2, false)] ++
  [(0x00, 7, false)] ++
  [(0x50, 2, false)] ++
  [(0x70, 2, false)] ++
  [(0x18, 2, false)] ++
  [(0xD8, 2, false)] ++
  [(0x58, 2, false)] ++
  [(0xB8, 2, false)] ++
  [(0xC1, 6, false), (0xC5, 3, false), (0xC9, 2, false), (0xCD, 4, false), (0xD1, 5, true), (0xD5, 4, false)] ++
  [(0xD9, 4, true), (0xDD, 4, true)] ++
  [(0xE0, 2, false), (0xE4, 3, false), (0xEC, 4, false)] ++
  [(0xC0, 2, false), (0xC4, 3, false), (0xCC, 4, false)] ++
  [(0xC6, 5, false), (0xCE, 6, false), (0xD6, 6, false), (0xDE, 7, false)] ++
  [(0xCA, 2, false)] ++
  [(0x88, 2, false)] ++
  [(0x41, 6, false), (0x45, 3, false), (0x49, 2, false), (0x4D, 4, false), (0x51, 5, true), (0x55, 4, false)] ++
  [(0x59, 4, true), (0x5D, 4, true)] ++
  [(0xE6, 5, false), (0xEE, 6, false), (0xF6, 6, false), (0xFE, 7, false)] ++
  [(0xE8, 2, false)] ++
  [(0xC8, 2, false)] ++
  [(0x4C, 3, false), (0x6C, 5, false)] ++
  [(0x20, 6, false)] ++
  [(0xA1, 6, false), (0xA5, 3, false), (0xA9, 2, false), (0xAD, 4, false), (0xB1, 5, true), (0xB5, 4, false)] ++
  [(0xB9, 4, true), (0xBD, 4, true)] ++
  [(0xA2, 2, false), (0xA6, 3, false), (0xAE, 4, false), (0xB6, 4, false), (0xBE, 4, true)] ++
  [(0xA0, 2, false), (0xA4, 3, false), (0xAC, 4, false), (0xB4, 4, false), (0xBC, 4, true)] ++
  [(0x46, 5, false), (0x4A, 2, false), (0x4E, 6, false), (0x56, 6, false), (0x5E, 7, false)] ++
  [(0xEA, 2, false)] ++
  [(0x01, 6, false), (0x05, 3, false), (0x09, 2, false), (0x0D, 4, false), (0x11, 5, true), (0x15, 4, false)] ++
  [(0x19, 4, true), (0x1D, 4, true)] ++
  [(0x48, 3, false)] ++
  [(0x08, 3, false)] ++
  [(0x68, 4, false)] ++
  [(0x28, 4, false)] ++
  [(0x26, 5, false), (0x2A, 2, false), (0x2E, 6, false), (0x36, 6, false), (0x3E, 7, false)] ++
  [(0x66, 5, false), (0x6A, 2, false), (0x6E, 6, false), (0x76, 6, false), (0x7E, 7, false)] ++
  [(0x40, 6, false)] ++
  [(0x60, 6, false)] ++
  [(0xE1, 6, false), (0xE5, 3, false), (0xE9, 2, false), (0xED, 4, false), (0xF1, 5, true), (0xF5, 4, false)] ++
  [(0xF9, 4, true), (0xFD, 4, true)] ++
  [(0x38, 2, false)] ++
  [(0xF8, 2, false)] ++
  [(0x78, 2, false)] ++
  [(0x81, 6, false), (0x85, 3, false), (0x8D, 4, false), (0x91, 6, false), (0x95, 4, false), (0x99, 5, false)] ++
  [(0x9D, 5, false)] ++
  [(0x86, 3, false), (0x8E, 4, false), (0x96, 4, false)] ++
  [(0x84, 3, false), (0x8C, 4, false), (0x94, 4, false)] ++
  [(0xAA, 2, false)] ++
  [(0xA8, 2, false)] ++
  [(0xBA, 2, false)] ++
  [(0x8A, 2, false)] ++
  [(0x9A, 2, false)] ++
  [(0x98, 2, false)] ++
  [(0xC3, 8, false), (0xC7, 5, false), (0xCF, 6, false), (0xD3, 8, false), (0xD7, 6, false), (0xDB, 7, false)] ++
  [(0xDF, 7, false)] ++
  [(0xE3, 8, false), (0xE7, 5, false), (0xEF, 6, false), (0xF3, 8, false), (0xF7, 6, false), (0xFB, 7, false)] ++
  [(0xFF, 7, false)] ++
  [(0xA3, 6, false), (0xA7, 3, false), (0xAF, 4, false), (0xB3, 5, true), (0xB7, 4, false), (0xBF, 4, true)] ++
  [(0x04, 3, false), (0x0C, 4, false), (0x14, 4, false), (0x1A, 2, false), (0x1C, 4, true), (0x34, 4, false)] ++
  [(0x3A, 2, false), (0x3C, 4, true), (0x44, 3, false), (0x54, 4, false), (0x5A, 2, false), (0x5C, 4, true)] ++
  [(0x64, 3, false), (0x74, 4, false), (0x7A, 2, false), (0x7C, 4, true), (0x80, 2, false), (0x82, 2, false)] ++
  [(0x89, 2, false), (0xC2, 2, false), (0xD4, 4, false), (0xDA, 2, false), (0xDC, 4, true), (0xE2, 2, false)] ++
  [(0xF4, 4, false), (0xFA, 2, false), (0xFC, 4, true)] ++
  [(0x23, 8, false), (0x27, 5, false), (0x2F, 6, false), (0x33, 8, false), (0x37, 6, false), (0x3B, 7, false)] ++
  [(0x3F, 7, false)] ++
  [(0x63, 8, false), (0x67, 5, false), (0x6F, 6, false), (0x73, 8, false), (0x77, 6, false), (0x7B, 7, false)] ++
  [(0x7F, 7, false)] ++
  [(0x83, 6, false), (0x87, 3, false), (0x8F, 4, false), (0x97, 4, false)] ++
  [(0xEB, 2, false)] ++
  [(0x03, 8, false), (0x07, 5, false), (0x0F, 6, false), (0x13, 8, false), (0x17, 6, false), (0x1B, 7, false)] ++
  [(0x1F, 7, false)] ++
  [(0x43, 8, false), (0x47, 5, false), (0x4F, 6, false), (0x53, 8, false), (0x57, 6, false), (0x5B, 7, false)] ++
  [(0x5F, 7, false)]

end Sys2Proof.Claims

open Sys2Proof Sys2Proof.Machine Sys2Proof.Claims

/-! ### Encoding -/

/-- R100, R101: the bytes of every well-formed instruction decode to it, whatever follows them, and nothing of what follows is
read. -/
def Obligations.DecodeInvertsEncode : Prop :=
  ∀ (i : Instr) (rest : List Byte), i.wellFormed = true → decode (encode i ++ rest) = .ok (i, rest)

/-- R100: the decoder gives well-formed instructions only, and their bytes are the bytes it read. -/
def Obligations.EncodeInvertsDecode : Prop :=
  ∀ (bs rest : List Byte) (i : Instr), decode bs = .ok (i, rest) → i.wellFormed = true ∧ encode i ++ rest = bs

/-- R105, R106, R107, R109: every opcode byte decodes to an instruction of that opcode, of 1 to 3 bytes; 151 opcodes are
documented, 80 are the subset U, and 25 have no descriptor. -/
def Obligations.EveryOpcodeDecodes : Prop :=
  (∀ (op b1 b2 : Byte) (rest : List Byte), ∃ i, 1 ≤ i.length ∧ i.length ≤ 3 ∧ opcode i = op ∧
    decode (op :: b1 :: b2 :: rest) = .ok (i, (op :: b1 :: b2 :: rest).drop i.length)) ∧
  (∀ op : Byte, (instrOf op 0 0).hasDescriptor = false ↔
    op ∈ [0x02#8, 0x12, 0x22, 0x32, 0x42, 0x52, 0x62, 0x72, 0x92, 0xB2, 0xD2, 0xF2] ++
      [0x0B, 0x2B, 0x4B, 0x6B, 0x8B, 0xAB, 0xCB, 0x93, 0x9B, 0x9C, 0x9E, 0x9F, 0xBB]) ∧
  ((List.range 256).countP fun n => (instrOf (BitVec.ofNat 8 n) 0 0).documented) = 151 ∧
  ((List.range 256).countP fun n =>
    (instrOf (BitVec.ofNat 8 n) 0 0).hasDescriptor && !(instrOf (BitVec.ofNat 8 n) 0 0).documented) = 80

/-- R101, R102, R105, R106, R107: one word of each family, written out from the Encoding lines. -/
def Obligations.SampleWordsDecode : Prop :=
  decode [0xA9, 0x80] = .ok (.lda (.imm 0x80), []) ∧
  decode [0x8D, 0x00, 0x02] = .ok (.sta (.abs 0x0200), []) ∧
  decode [0x96, 0x10] = .ok (.stx (.zpy 0x10), []) ∧
  decode [0x71, 0x40] = .ok (.adc (.mem (.izy 0x40)), []) ∧
  decode [0xDD, 0xF0, 0x12] = .ok (.cmp (.mem (.abx 0x12F0)), []) ∧
  decode [0x6A] = .ok (.ror .acc, []) ∧
  decode [0xF0, 0xFE] = .ok (.beq 0xFE, []) ∧
  decode [0x6C, 0xFF, 0x02] = .ok (.jmp (.ind 0x02FF), []) ∧
  decode [0x20, 0x34, 0x12] = .ok (.jsr 0x1234, []) ∧
  decode [0x08, 0x28] = .ok (.php, [0x28]) ∧
  decode [0x00] = .ok (.brk, []) ∧
  decode [0x0C, 0x02, 0x20] = .ok (.nopU 0x0C (.mem (.abs 0x2002)), []) ∧
  decode [0xE3, 0x05] = .ok (.isb (.izx 0x05), []) ∧
  decode [0x02] = .ok (.undefined 0x02, [])

/-- R151, R152, R153, R470: a well-formed instruction leaves the budget that the count of R470's table, a page-cross penalty
where its row has a `+`, and the extra cycles of a taken branch give. -/
def Obligations.CostOfInstruction : Prop :=
  ∀ (i : Instr) (s : State), i.wellFormed = true → i.hasDescriptor = true →
    ∃ c plus t, (opcode i, c, plus) ∈ cycleTable ∧ exec i s = .next t ∧
      t.budget + 1 = c + (if plus then operandCross i s else 0) + branchExtra i s

/-! ### The tick, the boundary, the services -/

/-- R131: a halted engine does nothing; a budget that is left is counted down by one; with none left there is a boundary. What
the other actors did before the tick is already in the state (R82). -/
def Obligations.TickRule : Prop :=
  ∀ s : State,
    (∀ reason, s.run = .halted reason → step s = .next (deliver s)) ∧
    (s.run = .running → 0 < s.budget → step s = .next { deliver s with budget := s.budget - 1 }) ∧
    (s.run = .running → s.budget = 0 → step s = boundary (deliver s))

/-- R85, R133: at a boundary that services nothing, a step runs the instruction that the bytes read at the PC decode to. Each byte
is one bus read, in order, so from the state the read before it left: wherever the PC lies, the register window included. Outside
the window the reads are of plain storage and change nothing. -/
def Obligations.StepRunsDecodedInstruction : Prop :=
  ∀ s : State,
    let t := deliver s
    let op := memRead t.pc t
    let b1 := memRead (t.pc + 1) op.2
    let b2 := memRead (t.pc + 2) b1.2
    AtBoundary t → NoRequest t →
    (∀ i, decode [op.1] = .ok (i, []) → i.admitted t.config.unofficial = true → step s = exec i op.2) ∧
    (∀ i, decode [op.1, b1.1] = .ok (i, []) → i.admitted t.config.unofficial = true → step s = exec i b1.2) ∧
    (∀ i, decode [op.1, b1.1, b2.1] = .ok (i, []) → i.admitted t.config.unofficial = true → step s = exec i b2.2) ∧
    (∀ i rest, OutsideWindow t.pc i.length → decode (bytesAt t t.pc 3) = .ok (i, rest) →
      i.admitted t.config.unofficial = true → step s = exec i t)

/-- R401: an opcode that is not admitted halts the engine, recorded with its address. Nothing else changes, apart from what the
fetch of the opcode does, and the instruction `undefined` has no other effect. The halt is for good: no event of another actor
leads out of it, and none changes a register, the budget or a memory byte. (That the reset latch stays too, whatever the other
actors do, is the MODEL'S DEDUCTION, log 10: R452 says that a request to a halted engine has no effect. What the other actors do
is the model's input script, log 2.) -/
def Obligations.UndefinedOpcodeHalts : Prop :=
  (∀ s : State,
    let t := deliver s
    let op := memRead t.pc t
    AtBoundary t → NoRequest t → (instrOf op.1 0 0).admitted t.config.unofficial = false →
    step s = .next { op.2 with run := .halted (.undefinedInstruction op.1 t.pc) }) ∧
  (∀ (op : Byte) (s : State), exec (.undefined op) s = .next { s with run := .halted (.undefinedInstruction op s.pc) }) ∧
  (∀ (s : State) (reason : Fault) (k : Nat), s.run = .halted reason →
    ∃ t, Sys2Proof.core.run k s = .next t ∧ t.run = .halted reason ∧ t.a = s.a ∧ t.x = s.x ∧ t.y = s.y ∧ t.sp = s.sp ∧
      t.pc = s.pc ∧ t.p = s.p ∧ t.budget = s.budget ∧ t.cpuMem = s.cpuMem ∧ t.ppuMem = s.ppuMem ∧ t.cart = s.cart ∧
      t.resetPending = s.resetPending)

/-- R400, R401, R404: the engine halts only at a boundary that services nothing, because of the opcode fetched there, and it
records that opcode and its address. -/
def Obligations.HaltOnlyByUnadmittedOpcode : Prop :=
  ∀ (s t : State) (reason : Fault), s.run = .running → step s = .next t → t.run = .halted reason →
    s.budget = 0 ∧ NoRequest (deliver s) ∧ t.pc = s.pc ∧
    (instrOf (memRead s.pc (deliver s)).1 0 0).admitted s.config.unofficial = false ∧
    reason = .undefinedInstruction (memRead s.pc (deliver s)).1 s.pc

/-- R132, R420: the first request present is serviced, in the order reset, NMI, IRQ, and the service occupies 7 ticks; with no
request, one instruction is executed. -/
def Obligations.BoundaryPriority : Prop :=
  ∀ s : State,
    let t := deliver s
    AtBoundary t →
    (t.resetPending = true → step s = .next { serviceReset t with budget := 6 }) ∧
    (t.resetPending = false → t.nmiPending = true → step s = .next { serviceNmi t with budget := 6 }) ∧
    (t.resetPending = false → t.nmiPending = false → t.irqLine = true → t.p.i = false →
      step s = .next { serviceIrq t with budget := 6 }) ∧
    (t.resetPending = false → t.nmiPending = false → (t.irqLine = false ∨ t.p.i = true) → step s = executeOne t)

/-- R451, R453: the whole effect of the reset service, for both settings of `P_RESET_PUSHES`. What is not named is unchanged. -/
def Obligations.ResetService : Prop :=
  ∀ s : State,
    let t := deliver s
    AtBoundary t → t.resetPending = true →
    step s = .next
      { t with
        resetPending := false
        sp := t.sp - 3
        cpuMem := if t.config.resetPushes then (pushedPair t.pc t).write (stackByte (t.sp - 2)) (t.p.pushed false) else t.cpuMem
        p := { t.p with i := true }
        pc := word (t.cpuMem.read 0xFFFC) (t.cpuMem.read 0xFFFD)
        shim := { t.shim with ctrl := 0x00, mask := 0x00, w := false }
        nmiPending := false
        budget := 6 }

/-- R425: the whole effect of an NMI service, of an IRQ service and of BRK: PCH, PCL and P pushed, with bit 4 clear for the
services and set for BRK, I set, PC from the vector, D unchanged; the NMI latch is cleared, the IRQ line is not. -/
def Obligations.InterruptEntries : Prop :=
  ∀ s : State,
    let t := deliver s
    (AtBoundary t → t.resetPending = false → t.nmiPending = true →
      step s = .next { entered t.pc false 0xFFFA t with nmiPending := false, budget := 6 }) ∧
    (AtBoundary t → t.resetPending = false → t.nmiPending = false → t.irqLine = true → t.p.i = false →
      step s = .next { entered t.pc false 0xFFFE t with budget := 6 }) ∧
    exec .brk s = .next { entered (s.pc + 2) true 0xFFFE s with budget := 6 }

/-- R450: the power-on value of every state element, and the first boundary, which services the reset. (The value of `irqLine`
is the model's choice, log 3, and is not stated.) -/
def Obligations.PowerOnState : Prop :=
  let s := State.reset
  s.a = 0x00 ∧ s.x = 0x00 ∧ s.y = 0x00 ∧ s.sp = 0x00 ∧ s.p.byte = 0x24 ∧ s.p.i = true ∧ s.p.b = false ∧
  s.pc = 0x0000 ∧ s.budget = 0 ∧ s.run = .running ∧ s.resetPending = true ∧ s.nmiPending = false ∧
  (∀ a, s.cpuMem.read a = 0x00) ∧ (∀ a, s.ppuMem.read a = 0x00) ∧
  s.shim.ctrl = 0 ∧ s.shim.mask = 0 ∧ s.shim.oamAddr = 0 ∧ s.shim.vblank = false ∧ s.shim.w = false ∧
  s.shim.addrHi = 0 ∧ s.shim.vramAddr = 0 ∧ s.shim.readBuf = 0 ∧
  ∃ t, step s = .next t ∧ t.resetPending = false ∧ t.sp = 0xFD ∧ t.p.byte = 0x24 ∧ t.pc = 0x0000 ∧ t.budget = 6 ∧
    t.cpuMem.read 0x0100 = 0x00 ∧ t.cpuMem.read 0x01FF = 0x00 ∧ t.cpuMem.read 0x01FE = 0x24

/-- R153, R472: the ticks that a budget still occupies only count down, whatever the other actors do meanwhile: no register, flag
or memory byte changes, and the next boundary comes after exactly so many ticks. -/
def Obligations.CountdownReachesBoundary : Prop :=
  ∀ (s : State) (k : Nat), s.run = .running → k ≤ s.budget →
    ∃ t, Sys2Proof.core.run k s = .next t ∧ t.run = .running ∧ t.budget = s.budget - k ∧
      t.a = s.a ∧ t.x = s.x ∧ t.y = s.y ∧ t.sp = s.sp ∧ t.pc = s.pc ∧ t.p = s.p ∧ t.cpuMem = s.cpuMem ∧ t.ppuMem = s.ppuMem ∧
      t.cart = s.cart ∧ t.config = s.config ∧ t.hostEvents = s.hostEvents.drop k

/-! ### What each instruction does: its modes and opcodes, and its whole next state -/

/-- R171, R172, R173. -/
def Obligations.Loads : Prop :=
  HasForms Source.mode .lda (eightForms 0xA9 0xA5 0xB5 0xAD 0xBD 0xB9 0xA1 0xB1) ∧
  HasForms Source.mode .ldx [(.imm, 0xA2), (.zp, 0xA6), (.zpy, 0xB6), (.abs, 0xAE), (.aby, 0xBE)] ∧
  HasForms Source.mode .ldy [(.imm, 0xA0), (.zp, 0xA4), (.zpx, 0xB4), (.abs, 0xAC), (.abx, 0xBC)] ∧
  ∀ (o : Source) (s : State),
    let r := operand o s
    Completes (.lda o) s (crossed o s) { r.2 with a := r.1, p := nz s.p r.1 } ∧
    Completes (.ldx o) s (crossed o s) { r.2 with x := r.1, p := nz s.p r.1 } ∧
    Completes (.ldy o) s (crossed o s) { r.2 with y := r.1, p := nz s.p r.1 }

/-- R174, R175, R176. -/
def Obligations.Stores : Prop :=
  HasForms Addressing.mode .sta (sevenForms 0x85 0x95 0x8D 0x9D 0x99 0x81 0x91) ∧
  HasForms Addressing.mode .stx [(.zp, 0x86), (.zpy, 0x96), (.abs, 0x8E)] ∧
  HasForms Addressing.mode .sty [(.zp, 0x84), (.zpx, 0x94), (.abs, 0x8C)] ∧
  ∀ (m : Addressing) (s : State),
    Completes (.sta m) s 0 (memWrite (effective m s).ea s.a s) ∧
    Completes (.stx m) s 0 (memWrite (effective m s).ea s.x s) ∧
    Completes (.sty m) s 0 (memWrite (effective m s).ea s.y s)

/-- R177–R182. -/
def Obligations.Transfers : Prop :=
  encode .tax = [0xAA] ∧ encode .tay = [0xA8] ∧ encode .txa = [0x8A] ∧ encode .tya = [0x98] ∧ encode .tsx = [0xBA] ∧
  encode .txs = [0x9A] ∧
  ∀ s : State,
    Completes .tax s 0 { s with x := s.a, p := nz s.p s.a } ∧
    Completes .tay s 0 { s with y := s.a, p := nz s.p s.a } ∧
    Completes .txa s 0 { s with a := s.x, p := nz s.p s.x } ∧
    Completes .tya s 0 { s with a := s.y, p := nz s.p s.y } ∧
    Completes .tsx s 0 { s with x := s.sp, p := nz s.p s.sp } ∧
    Completes .txs s 0 { s with sp := s.x }

/-- R200, R201, R203, R204, R334, spelled out in unbounded arithmetic. -/
def Obligations.AddAndSubtract : Prop :=
  HasForms Source.mode .adc (eightForms 0x69 0x65 0x75 0x6D 0x7D 0x79 0x61 0x71) ∧
  HasForms Source.mode .sbc (eightForms 0xE9 0xE5 0xF5 0xED 0xFD 0xF9 0xE1 0xF1) ∧
  (∀ b, encode (.sbcU b) = [0xEB, b]) ∧
  ∀ (o : Source) (s : State),
    let m := (operand o s).1
    let sum := s.a.toNat + m.toNat + (if s.p.c then 1 else 0)
    let r := BitVec.ofNat 8 (sum % 256)
    let diff : Int := (s.a.toNat : Int) - (m.toNat : Int) - (if s.p.c then 0 else 1)
    let q := BitVec.ofNat 8 (diff % 256).toNat
    Completes (.adc o) s (crossed o s)
      { (operand o s).2 with
        a := r
        p := cvnz s.p (decide (255 < sum)) (decide (s.a.getLsbD 7 = m.getLsbD 7 ∧ r.getLsbD 7 ≠ s.a.getLsbD 7)) r } ∧
    Completes (.sbc o) s (crossed o s)
      { (operand o s).2 with
        a := q
        p := cvnz s.p (decide (0 ≤ diff)) (decide (s.a.getLsbD 7 ≠ m.getLsbD 7 ∧ q.getLsbD 7 ≠ s.a.getLsbD 7)) q } ∧
    (∀ b, exec (.sbcU b) s = exec (.sbc (.imm b)) s)

/-- R200, R201, R218: subtraction is addition of the complemented operand, in the result and in both flags; overflow is the signed
result leaving the range of a byte, and is the bit formula of R200. -/
def Obligations.ArithmeticLaws : Prop :=
  ∀ (a m : Byte) (c : Bool),
    subWithBorrow a m c = addWithCarry a (m ^^^ 0xFF) c ∧
    ((addWithCarry a m c).overflow = true ↔
      a.toInt + m.toInt + (if c then 1 else 0) < -128 ∨ 127 < a.toInt + m.toInt + (if c then 1 else 0)) ∧
    ((addWithCarry a m c).overflow = true ↔
      (a ^^^ (addWithCarry a m c).value) &&& (m ^^^ (addWithCarry a m c).value) &&& 0x80 ≠ 0)

/-- R205, R206, R207. -/
def Obligations.LogicInstructions : Prop :=
  HasForms Source.mode .and (eightForms 0x29 0x25 0x35 0x2D 0x3D 0x39 0x21 0x31) ∧
  HasForms Source.mode .ora (eightForms 0x09 0x05 0x15 0x0D 0x1D 0x19 0x01 0x11) ∧
  HasForms Source.mode .eor (eightForms 0x49 0x45 0x55 0x4D 0x5D 0x59 0x41 0x51) ∧
  ∀ (o : Source) (s : State),
    let r := operand o s
    Completes (.and o) s (crossed o s) { r.2 with a := s.a &&& r.1, p := nz s.p (s.a &&& r.1) } ∧
    Completes (.ora o) s (crossed o s) { r.2 with a := s.a ||| r.1, p := nz s.p (s.a ||| r.1) } ∧
    Completes (.eor o) s (crossed o s) { r.2 with a := s.a ^^^ r.1, p := nz s.p (s.a ^^^ r.1) }

/-- R202, R208, R209, R210, R211: the compares write C, Z and N and not V; BIT takes N and V from the operand itself. -/
def Obligations.CompareAndBit : Prop :=
  HasForms Source.mode .cmp (eightForms 0xC9 0xC5 0xD5 0xCD 0xDD 0xD9 0xC1 0xD1) ∧
  HasForms Source.mode .cpx [(.imm, 0xE0), (.zp, 0xE4), (.abs, 0xEC)] ∧
  HasForms Source.mode .cpy [(.imm, 0xC0), (.zp, 0xC4), (.abs, 0xCC)] ∧
  HasForms Addressing.mode .bit [(.zp, 0x24), (.abs, 0x2C)] ∧
  (∀ (o : Source) (s : State),
    let r := operand o s
    Completes (.cmp o) s (crossed o s)
      { r.2 with p := { s.p with c := decide (r.1.toNat ≤ s.a.toNat), z := decide (s.a = r.1), n := (s.a - r.1).getLsbD 7 } } ∧
    Completes (.cpx o) s (crossed o s)
      { r.2 with p := { s.p with c := decide (r.1.toNat ≤ s.x.toNat), z := decide (s.x = r.1), n := (s.x - r.1).getLsbD 7 } } ∧
    Completes (.cpy o) s (crossed o s)
      { r.2 with p := { s.p with c := decide (r.1.toNat ≤ s.y.toNat), z := decide (s.y = r.1), n := (s.y - r.1).getLsbD 7 } }) ∧
  (∀ (m : Addressing) (s : State),
    let r := memOperand m s
    Completes (.bit m) s (if (effective m s).cross then 1 else 0)
      { r.2 with p := { s.p with z := decide (s.a &&& r.1 = 0), n := r.1.getLsbD 7, v := r.1.getLsbD 6 } })

/-- R212, R213: one read, one write of the result at the same address; C and V unchanged; no page-cross penalty. -/
def Obligations.IncrementDecrementMemory : Prop :=
  HasForms Addressing.mode .inc [(.zp, 0xE6), (.zpx, 0xF6), (.abs, 0xEE), (.abx, 0xFE)] ∧
  HasForms Addressing.mode .dec [(.zp, 0xC6), (.zpx, 0xD6), (.abs, 0xCE), (.abx, 0xDE)] ∧
  ∀ (m : Addressing) (s : State),
    let r := memOperand m s
    let up := BitVec.ofNat 8 ((r.1.toNat + 1) % 256)
    let down := BitVec.ofNat 8 ((r.1.toNat + 255) % 256)
    Completes (.inc m) s 0 { memWrite (effective m s).ea up r.2 with p := nz s.p up } ∧
    Completes (.dec m) s 0 { memWrite (effective m s).ea down r.2 with p := nz s.p down }

/-- R214–R217: modulo 256; C is unchanged. -/
def Obligations.IncrementDecrementIndex : Prop :=
  encode .inx = [0xE8] ∧ encode .iny = [0xC8] ∧ encode .dex = [0xCA] ∧ encode .dey = [0x88] ∧
  ∀ s : State,
    let up (v : Byte) : Byte := BitVec.ofNat 8 ((v.toNat + 1) % 256)
    let down (v : Byte) : Byte := BitVec.ofNat 8 ((v.toNat + 255) % 256)
    Completes .inx s 0 { s with x := up s.x, p := nz s.p (up s.x) } ∧
    Completes .iny s 0 { s with y := up s.y, p := nz s.p (up s.y) } ∧
    Completes .dex s 0 { s with x := down s.x, p := nz s.p (down s.x) } ∧
    Completes .dey s 0 { s with y := down s.y, p := nz s.p (down s.y) }

/-- R240–R244, in unbounded arithmetic: on A or on memory, by one bit, the bit shifted out into C. -/
def Obligations.ShiftsAndRotates : Prop :=
  HasForms Target.mode .asl (shiftForms 0x0A 0x06 0x16 0x0E 0x1E) ∧
  HasForms Target.mode .lsr (shiftForms 0x4A 0x46 0x56 0x4E 0x5E) ∧
  HasForms Target.mode .rol (shiftForms 0x2A 0x26 0x36 0x2E 0x3E) ∧
  HasForms Target.mode .ror (shiftForms 0x6A 0x66 0x76 0x6E 0x7E) ∧
  ShiftRule .asl (fun m _ => BitVec.ofNat 8 (2 * m.toNat)) (fun m => m.getLsbD 7) ∧
  ShiftRule .lsr (fun m _ => BitVec.ofNat 8 (m.toNat / 2)) (fun m => m.getLsbD 0) ∧
  ShiftRule .rol (fun m c => BitVec.ofNat 8 (2 * m.toNat + (if c then 1 else 0))) (fun m => m.getLsbD 7) ∧
  ShiftRule .ror (fun m c => BitVec.ofNat 8 (m.toNat / 2 + (if c then 128 else 0))) (fun m => m.getLsbD 0)

/-- R260–R268. -/
def Obligations.Branches : Prop :=
  BranchRule .bpl 0x10 (fun p => !p.n) ∧ BranchRule .bmi 0x30 (fun p => p.n) ∧
  BranchRule .bvc 0x50 (fun p => !p.v) ∧ BranchRule .bvs 0x70 (fun p => p.v) ∧
  BranchRule .bcc 0x90 (fun p => !p.c) ∧ BranchRule .bcs 0xB0 (fun p => p.c) ∧
  BranchRule .bne 0xD0 (fun p => !p.z) ∧ BranchRule .beq 0xF0 (fun p => p.z)

/-- R137, R148, R269: the indirect form reads the high byte of its target from the page of the low byte. -/
def Obligations.Jumps : Prop :=
  ∀ (a : Addr) (s : State),
    let lo := memRead a s
    let hi := memRead (word (loByte a + 1) (hiByte a)) lo.2
    encode (.jmp (.abs a)) = [0x4C, loByte a, hiByte a] ∧ encode (.jmp (.ind a)) = [0x6C, loByte a, hiByte a] ∧
    (Instr.jmp (.abs a)).baseCycles = 3 ∧ (Instr.jmp (.ind a)).baseCycles = 5 ∧
    JumpsTo (.jmp (.abs a)) s 0 a s ∧
    JumpsTo (.jmp (.ind a)) s 0 (word lo.1 hi.1) hi.2

/-- R270, R271: JSR pushes the address of its own last byte; RTS pulls an address and adds 1. -/
def Obligations.CallAndReturn : Prop :=
  ∀ (a : Addr) (s : State),
    encode (.jsr a) = [0x20, loByte a, hiByte a] ∧ encode .rts = [0x60] ∧
    (Instr.jsr a).baseCycles = 6 ∧ Instr.rts.baseCycles = 6 ∧
    JumpsTo (.jsr a) s 0 a { s with sp := s.sp - 2, cpuMem := pushedPair (s.pc + 2) s } ∧
    JumpsTo .rts s 0 (word (s.cpuMem.read (stackByte (s.sp + 1))) (s.cpuMem.read (stackByte (s.sp + 2))) + 1)
      { s with sp := s.sp + 2 }

/-- R290, R291, R293–R296: the stack byte of each push and pull, SP wrapping in 8 bits. -/
def Obligations.StackInstructions : Prop :=
  encode .pha = [0x48] ∧ encode .pla = [0x68] ∧ encode .php = [0x08] ∧ encode .plp = [0x28] ∧
  Instr.pha.baseCycles = 3 ∧ Instr.pla.baseCycles = 4 ∧ Instr.php.baseCycles = 3 ∧ Instr.plp.baseCycles = 4 ∧
  ∀ s : State,
    let pulled := s.cpuMem.read (stackByte (s.sp + 1))
    Completes .pha s 0 { s with sp := s.sp - 1, cpuMem := s.cpuMem.write (stackByte s.sp) s.a } ∧
    Completes .php s 0 { s with sp := s.sp - 1, cpuMem := s.cpuMem.write (stackByte s.sp) (s.p.pushed true) } ∧
    Completes .pla s 0 { s with sp := s.sp + 1, a := pulled, p := nz s.p pulled } ∧
    Completes .plp s 0 { s with sp := s.sp + 1, p := Status.pulled pulled }

/-- R25, R28, R29, R292: the byte images, bit by bit, and what a pull takes from one. -/
def Obligations.StatusImages : Prop :=
  (∀ (p : Status) (b : Bool),
    (p.pushed b).getLsbD 0 = p.c ∧ (p.pushed b).getLsbD 1 = p.z ∧ (p.pushed b).getLsbD 2 = p.i ∧
    (p.pushed b).getLsbD 3 = p.d ∧ (p.pushed b).getLsbD 4 = b ∧ (p.pushed b).getLsbD 5 = true ∧
    (p.pushed b).getLsbD 6 = p.v ∧ (p.pushed b).getLsbD 7 = p.n ∧
    p.byte = p.pushed p.b ∧ Status.pulled (p.pushed b) = { p with b := false }) ∧
  (∀ v : Byte,
    Status.pulled v =
      { c := v.getLsbD 0, z := v.getLsbD 1, i := v.getLsbD 2, d := v.getLsbD 3, b := false, v := v.getLsbD 6,
        n := v.getLsbD 7 } ∧
    (Status.pulled v).byte = v &&& 0xEF ||| 0x20)

/-- R297–R304: one flag each, and NOP none. -/
def Obligations.FlagInstructions : Prop :=
  encode .clc = [0x18] ∧ encode .sec = [0x38] ∧ encode .cli = [0x58] ∧ encode .sei = [0x78] ∧ encode .cld = [0xD8] ∧
  encode .sed = [0xF8] ∧ encode .clv = [0xB8] ∧ encode .nop = [0xEA] ∧
  Instr.clc.baseCycles = 2 ∧ Instr.nop.baseCycles = 2 ∧
  ∀ s : State,
    Completes .clc s 0 { s with p := { s.p with c := false } } ∧ Completes .sec s 0 { s with p := { s.p with c := true } } ∧
    Completes .cli s 0 { s with p := { s.p with i := false } } ∧ Completes .sei s 0 { s with p := { s.p with i := true } } ∧
    Completes .cld s 0 { s with p := { s.p with d := false } } ∧ Completes .sed s 0 { s with p := { s.p with d := true } } ∧
    Completes .clv s 0 { s with p := { s.p with v := false } } ∧ Completes .nop s 0 s

/-- R305, R306: BRK enters the exception itself, whatever I holds, with bit 4 of the pushed status set and the padding byte
skipped; RTI pulls P, then the PC, and adds no 1. -/
def Obligations.BreakAndReturn : Prop :=
  encode .brk = [0x00] ∧ encode .rti = [0x40] ∧ Instr.brk.baseCycles = 7 ∧ Instr.rti.baseCycles = 6 ∧
  ∀ s : State,
    exec .brk s = .next { entered (s.pc + 2) true 0xFFFE s with budget := 6 } ∧
    JumpsTo .rti s 0 (word (s.cpuMem.read (stackByte (s.sp + 2))) (s.cpuMem.read (stackByte (s.sp + 3))))
      { s with sp := s.sp + 3, p := Status.pulled (s.cpuMem.read (stackByte (s.sp + 1))) }

/-- R331: the opcodes of the undocumented NOP by mode; a memory operand is read and discarded. -/
def Obligations.UndocumentedNop : Prop :=
  (∀ (op : Byte) (o : NopOperand), (Instr.nopU op o).wellFormed = true ↔
    (o.mode = .imp ∧ op ∈ [0x1A#8, 0x3A, 0x5A, 0x7A, 0xDA, 0xFA]) ∨
    (o.mode = .imm ∧ op ∈ [0x80#8, 0x82, 0x89, 0xC2, 0xE2]) ∨
    (o.mode = .zp ∧ op ∈ [0x04#8, 0x44, 0x64]) ∨
    (o.mode = .zpx ∧ op ∈ [0x14#8, 0x34, 0x54, 0x74, 0xD4, 0xF4]) ∨
    (o.mode = .abs ∧ op = 0x0C) ∨
    (o.mode = .abx ∧ op ∈ [0x1C#8, 0x3C, 0x5C, 0x7C, 0xDC, 0xFC])) ∧
  (∀ (op b : Byte) (a : Addr), (Instr.nopU op .imp).baseCycles = 2 ∧ (Instr.nopU op (.imm b)).baseCycles = 2 ∧
    (Instr.nopU op (.mem (.zp b))).baseCycles = 3 ∧ (Instr.nopU op (.mem (.zpx b))).baseCycles = 4 ∧
    (Instr.nopU op (.mem (.abs a))).baseCycles = 4 ∧ (Instr.nopU op (.mem (.abx a))).baseCycles = 4) ∧
  (∀ (op b : Byte) (m : Addressing) (s : State),
    opcode (.nopU op (.mem m)) = op ∧
    Completes (.nopU op .imp) s 0 s ∧
    Completes (.nopU op (.imm b)) s 0 s ∧
    Completes (.nopU op (.mem m)) s (if (effective m s).cross then 1 else 0) (memOperand m s).2)

/-- R332, R333. -/
def Obligations.LoadAndStoreBoth : Prop :=
  HasForms Addressing.mode .lax
    [(.zp, 0xA7), (.zpy, 0xB7), (.abs, 0xAF), (.aby, 0xBF), (.izx, 0xA3), (.izy, 0xB3)] ∧
  HasForms Addressing.mode .sax [(.zp, 0x87), (.zpy, 0x97), (.abs, 0x8F), (.izx, 0x83)] ∧
  ∀ (m : Addressing) (s : State),
    let r := memOperand m s
    Completes (.lax m) s (if (effective m s).cross then 1 else 0) { r.2 with a := r.1, x := r.1, p := nz s.p r.1 } ∧
    Completes (.sax m) s 0 (memWrite (effective m s).ea (s.a &&& s.x) s)

/-- R335–R340: one read, one write of the modified byte, then the second operation on A with it. -/
def Obligations.ModifyCombinations : Prop :=
  HasForms Addressing.mode .slo (sevenForms 0x07 0x17 0x0F 0x1F 0x1B 0x03 0x13) ∧
  HasForms Addressing.mode .rla (sevenForms 0x27 0x37 0x2F 0x3F 0x3B 0x23 0x33) ∧
  HasForms Addressing.mode .sre (sevenForms 0x47 0x57 0x4F 0x5F 0x5B 0x43 0x53) ∧
  HasForms Addressing.mode .rra (sevenForms 0x67 0x77 0x6F 0x7F 0x7B 0x63 0x73) ∧
  HasForms Addressing.mode .dcp (sevenForms 0xC7 0xD7 0xCF 0xDF 0xDB 0xC3 0xD3) ∧
  HasForms Addressing.mode .isb (sevenForms 0xE7 0xF7 0xEF 0xFF 0xFB 0xE3 0xF3) ∧
  ∀ (m : Addressing) (s : State),
    let old := (memOperand m s).1
    let stored (v : Byte) := memWrite (effective m s).ea v (memOperand m s).2
    let left := BitVec.ofNat 8 (2 * old.toNat)
    let leftIn := BitVec.ofNat 8 (2 * old.toNat + (if s.p.c then 1 else 0))
    let right := BitVec.ofNat 8 (old.toNat / 2)
    let rightIn := BitVec.ofNat 8 (old.toNat / 2 + (if s.p.c then 128 else 0))
    let up := BitVec.ofNat 8 ((old.toNat + 1) % 256)
    let down := BitVec.ofNat 8 ((old.toNat + 255) % 256)
    let sum := s.a.toNat + rightIn.toNat + (if old.getLsbD 0 then 1 else 0)
    let r := BitVec.ofNat 8 (sum % 256)
    let diff : Int := (s.a.toNat : Int) - (up.toNat : Int) - (if s.p.c then 0 else 1)
    let q := BitVec.ofNat 8 (diff % 256).toNat
    Completes (.slo m) s 0 { stored left with a := s.a ||| left, p := cnz s.p (old.getLsbD 7) (s.a ||| left) } ∧
    Completes (.rla m) s 0 { stored leftIn with a := s.a &&& leftIn, p := cnz s.p (old.getLsbD 7) (s.a &&& leftIn) } ∧
    Completes (.sre m) s 0 { stored right with a := s.a ^^^ right, p := cnz s.p (old.getLsbD 0) (s.a ^^^ right) } ∧
    Completes (.rra m) s 0
      { stored rightIn with
        a := r
        p := cvnz s.p (decide (255 < sum))
          (decide (s.a.getLsbD 7 = rightIn.getLsbD 7 ∧ r.getLsbD 7 ≠ s.a.getLsbD 7)) r } ∧
    Completes (.dcp m) s 0
      { stored down with
        p := { s.p with c := decide (down.toNat ≤ s.a.toNat), z := decide (s.a = down), n := (s.a - down).getLsbD 7 } } ∧
    Completes (.isb m) s 0
      { stored up with
        a := q
        p := cvnz s.p (decide (0 ≤ diff)) (decide (s.a.getLsbD 7 ≠ up.getLsbD 7 ∧ q.getLsbD 7 ≠ s.a.getLsbD 7)) q }

/-! ### Memory and the register window -/

/-- R53, R54, R55, R56: outside the window an access is to `cpu_mem`, and a write at 0x8000 and above is dropped when
`P_ROM_WRITABLE` is false; in the window an access goes to the register `a − 0x2000`, and `cpu_mem` is neither read nor written. -/
def Obligations.BusArbiter : Prop :=
  ((List.range 8).map fun k => shimReg (0x2000 + BitVec.ofNat 16 k)) =
    [some .ctrl, some .mask, some .status, some .oamAddr, some .oamData, some .scroll, some .addr, some .data] ∧
  ∀ (a : Addr) (v : Byte) (s : State),
    (¬(0x2000 ≤ a.toNat ∧ a.toNat ≤ 0x2007) →
      memRead a s = (s.cpuMem.read a.toNat, s) ∧
      (a.toNat < 0x8000 ∨ s.config.romWritable = true →
        memWrite a v s = { s with cpuMem := s.cpuMem.write a.toNat v }) ∧
      (0x8000 ≤ a.toNat → s.config.romWritable = false → memWrite a v s = s)) ∧
    (∀ r, shimReg a = some r → memRead a s = shimRead r s ∧ memWrite a v s = shimWrite r v s) ∧
    (0x2000 ≤ a.toNat → a.toNat ≤ 0x2007 →
      ∀ m : Memory, (memRead a { s with cpuMem := m }).1 = (memRead a s).1 ∧
        (memRead a { s with cpuMem := m }).2 = { (memRead a s).2 with cpuMem := m } ∧
        memWrite a v { s with cpuMem := m } = { memWrite a v s with cpuMem := m })

/-- R56, R63, R81: a read gives the byte last written to its address; a write changes no other byte. -/
def Obligations.ReadAfterWrite : Prop :=
  ∀ (a b : Addr) (v : Byte) (s : State), s.cpuMem.wf cpuMemSize = true →
    shimReg a = none → shimReg b = none → (a.toNat < 0x8000 ∨ s.config.romWritable = true) →
    (memRead b (memWrite a v s)).1 = if b = a then v else (memRead b s).1

/-- R64, R65: the control and mask registers: what a write sets, the NMI request of an enabling write, the 0x00 of a read. -/
def Obligations.ControlAndMask : Prop :=
  State.reset.shim.ctrl = 0x00 ∧ State.reset.shim.mask = 0x00 ∧
  ∀ (v : Byte) (s : State),
    memRead 0x2000 s = (0x00, s) ∧ memRead 0x2001 s = (0x00, s) ∧
    memWrite 0x2001 v s = { s with shim := { s.shim with mask := v } } ∧
    (s.config.nmiOnEnable = true ∧ s.shim.vblank = true ∧ s.shim.ctrl.getLsbD 7 = false ∧ v.getLsbD 7 = true →
      memWrite 0x2000 v s = { s with shim := { s.shim with ctrl := v }, nmiPending := true }) ∧
    (¬(s.config.nmiOnEnable = true ∧ s.shim.vblank = true ∧ s.shim.ctrl.getLsbD 7 = false ∧ v.getLsbD 7 = true) →
      memWrite 0x2000 v s = { s with shim := { s.shim with ctrl := v } })

/-- R66: a status read gives VBlank in bit 7 and an open value below it, and clears VBlank and the toggle, so a second read gives
bit 7 clear; a write changes nothing. -/
def Obligations.StatusRegister : Prop :=
  ∀ (v : Byte) (s : State),
    (∃ low : BitVec 7, memRead 0x2002 s =
      (BitVec.ofBool s.shim.vblank ++ low,
       { s with shim := { s.shim with vblank := false, w := false }, draws := s.draws + 1 })) ∧
    (memRead 0x2002 s).1.getLsbD 7 = s.shim.vblank ∧
    (memRead 0x2002 (memRead 0x2002 s).2).1.getLsbD 7 = false ∧
    memWrite 0x2002 v s = s

/-- R67, R68, R69: the sprite-memory registers, the scroll register and the address register. -/
def Obligations.OamScrollAddress : Prop :=
  ∀ (v hi lo : Byte) (s : State),
    memRead 0x2003 s = (0x00, s) ∧ memRead 0x2005 s = (0x00, s) ∧ memRead 0x2006 s = (0x00, s) ∧
    (∃ drawn, memRead 0x2004 s = (drawn, { s with draws := s.draws + 1 })) ∧
    memWrite 0x2003 v s = { s with shim := { s.shim with oamAddr := v } } ∧
    memWrite 0x2004 v s = { s with shim := { s.shim with oamAddr := s.shim.oamAddr + 1 } } ∧
    memWrite 0x2005 v s = { s with shim := { s.shim with w := !s.shim.w } } ∧
    (s.shim.w = false → memWrite 0x2006 v s = { s with shim := { s.shim with addrHi := v.extractLsb' 0 6, w := true } }) ∧
    (s.shim.w = true → memWrite 0x2006 v s = { s with shim := { s.shim with vramAddr := s.shim.addrHi ++ v, w := false } }) ∧
    (s.shim.w = false →
      (memWrite 0x2006 lo (memWrite 0x2006 hi s)).shim.vramAddr.toNat = 256 * (hi.toNat % 64) + lo.toNat)

/-- R70, R71: a data write stores at the pointer, unless that is pattern memory and it is not writable; a data read gives the
buffered byte below 0x3F00 and the stored byte elsewhere; the pointer moves by 1 or 32. -/
def Obligations.DataRegister : Prop :=
  ∀ (v : Byte) (s : State),
    let here := s.ppuMem.read s.shim.vramAddr.toNat
    (0x2000 ≤ s.shim.vramAddr.toNat ∨ s.config.chrWritable = true →
      memWrite 0x2007 v s =
        { s with ppuMem := s.ppuMem.write s.shim.vramAddr.toNat v, shim := { s.shim with vramAddr := nextVram s } }) ∧
    (s.shim.vramAddr.toNat < 0x2000 → s.config.chrWritable = false →
      memWrite 0x2007 v s = { s with shim := { s.shim with vramAddr := nextVram s } }) ∧
    (s.config.ppuReadBuffered = true → s.shim.vramAddr.toNat < 0x3F00 →
      memRead 0x2007 s = (s.shim.readBuf, { s with shim := { s.shim with readBuf := here, vramAddr := nextVram s } })) ∧
    (s.config.ppuReadBuffered = true → 0x3F00 ≤ s.shim.vramAddr.toNat →
      ∃ drawn, memRead 0x2007 s =
        (here, { s with shim := { s.shim with readBuf := drawn, vramAddr := nextVram s }, draws := s.draws + 1 })) ∧
    (s.config.ppuReadBuffered = false →
      memRead 0x2007 s = (here, { s with shim := { s.shim with vramAddr := nextVram s } }))

/-! ### The addressing modes -/

/-- R134, R141, R142, R143, R145, R146, R147: the operand bytes, the effective address as a number, the page-cross flag; no access
is made. Then the operand helpers: the value of the accumulator mode is A, that of the immediate mode is the byte already fetched
(R139, R140), that of a memory mode is one read at its effective address; a store goes to A or to that address. -/
def Obligations.DirectModes : Prop :=
  (∀ (b v : Byte) (ea : Addr) (m : Addressing) (s : State),
    Source.bytes (.imm b) = [b] ∧ Target.bytes .acc = [] ∧
    resolveSource (.imm b) s = { place := .imm b, cross := false, state := s } ∧
    resolveTarget .acc s = { place := .acc, cross := false, state := s } ∧
    resolveSource (.mem m) s =
      { place := .mem (effective m s).ea, cross := (effective m s).cross, state := (effective m s).state } ∧
    resolveTarget (.mem m) s = resolveSource (.mem m) s ∧
    load (.imm b) s = (b, s) ∧ load .acc s = (s.a, s) ∧ load (.mem ea) s = memRead ea s ∧
    store .acc v s = { s with a := v } ∧ store (.mem ea) v s = memWrite ea v s) ∧
  (∀ (b : Byte) (a : Addr) (s : State),
    Addressing.bytes (.zp b) = [b] ∧ Addressing.bytes (.zpx b) = [b] ∧ Addressing.bytes (.zpy b) = [b] ∧
    Addressing.bytes (.abs a) = [BitVec.ofNat 8 (a.toNat % 256), BitVec.ofNat 8 (a.toNat / 256)] ∧
    Addressing.bytes (.abx a) = Addressing.bytes (.abs a) ∧ Addressing.bytes (.aby a) = Addressing.bytes (.abs a) ∧
    effective (.zp b) s = { ea := BitVec.ofNat 16 b.toNat, cross := false, state := s } ∧
    effective (.zpx b) s = { ea := BitVec.ofNat 16 ((b.toNat + s.x.toNat) % 256), cross := false, state := s } ∧
    effective (.zpy b) s = { ea := BitVec.ofNat 16 ((b.toNat + s.y.toNat) % 256), cross := false, state := s } ∧
    effective (.abs a) s = { ea := a, cross := false, state := s } ∧
    resolveJump (.abs a) s = (a, s) ∧
    effective (.abx a) s =
      { ea := BitVec.ofNat 16 ((a.toNat + s.x.toNat) % 65536)
        cross := decide ((a.toNat + s.x.toNat) % 65536 / 256 ≠ a.toNat / 256)
        state := s } ∧
    effective (.aby a) s =
      { ea := BitVec.ofNat 16 ((a.toNat + s.y.toNat) % 65536)
        cross := decide ((a.toNat + s.y.toNat) % 65536 / 256 ≠ a.toNat / 256)
        state := s }) ∧
  (∀ (i : Instr) (b : Byte) (u : Use), i.wellFormed = true → memoryUse i = some (.zpy b, u) →
    opcode i ∈ [0xB6#8, 0x96, 0xB7, 0x97])

/-- R136, R149, R150: the pointer of the (zp,X) and (zp),Y modes lies in the zero page, and its high byte wraps there. -/
def Obligations.PointerModes : Prop :=
  ∀ (b : Byte) (s : State),
    let zp (n : Nat) := (s.cpuMem.read (n % 256)).toNat
    let base := zp b.toNat + 256 * zp (b.toNat + 1)
    Addressing.bytes (.izx b) = [b] ∧ Addressing.bytes (.izy b) = [b] ∧
    effective (.izx b) s =
      { ea := BitVec.ofNat 16 (zp (b.toNat + s.x.toNat) + 256 * zp (b.toNat + s.x.toNat + 1))
        cross := false
        state := s } ∧
    effective (.izy b) s =
      { ea := BitVec.ofNat 16 ((base + s.y.toNat) % 65536)
        cross := decide ((base + s.y.toNat) % 65536 / 256 ≠ base / 256)
        state := s }

/-! ### Rules about all instructions -/

/-- R21, R22: A, X and Y are written only by the instructions these rules list. -/
def Obligations.RegisterWriters : Prop :=
  ∀ (i : Instr) (s : State), ∃ t, exec i s = .next t ∧
    (writesA i = false → t.a = s.a) ∧ (writesX i = false → t.x = s.x) ∧ (writesY i = false → t.y = s.y)

/-- R23, R24: SP is written only by the instructions R23 lists; an instruction that has a descriptor and transfers no control leaves
the PC at the address after its own bytes. -/
def Obligations.PointerWriters : Prop :=
  ∀ (i : Instr) (s : State), ∃ t, exec i s = .next t ∧
    (writesSp i = false → t.sp = s.sp) ∧
    (setsPc i = false → t.pc = s.pc + BitVec.ofNat 16 (encode i).length)

/-- R32: the flags each instruction may write, and no others; B stays as it is except that PLP and RTI clear it. -/
def Obligations.FlagWriters : Prop :=
  ∀ (i : Instr) (s : State), ∃ t, exec i s = .next t ∧
    (writesC i = false → t.p.c = s.p.c) ∧
    (writesNZ i = false → t.p.z = s.p.z ∧ t.p.n = s.p.n) ∧
    (writesI i = false → t.p.i = s.p.i) ∧
    (writesD i = false → t.p.d = s.p.d) ∧
    (writesV i = false → t.p.v = s.p.v) ∧
    (t.p.b = if i = .plp ∨ i = .rti then false else s.p.b)

/-- R27, R108, R218: D changes no other result. An instruction that does not load, set, clear or push D gives, from a state with
the other value of D, the same next state with that value of D. -/
def Obligations.DecimalInert : Prop :=
  ∀ (i : Instr) (s t : State) (d : Bool), writesD i = false → i ≠ .php → i ≠ .brk →
    exec i s = .next t →
    exec i { s with p := { s.p with d := d } } = .next { t with p := { t.p with d := d } }

/-- R63, R87, R170: an instruction that neither stores, nor modifies, nor pushes leaves every byte of both memories. -/
def Obligations.NonStoringFrame : Prop :=
  ∀ (i : Instr) (s t : State), pushes i = 0 → (∀ m use, memoryUse i = some (m, use) → use = .reads) →
    exec i s = .next t →
    ∀ a, t.cpuMem.read a = s.cpuMem.read a ∧ t.ppuMem.read a = s.ppuMem.read a

/-- R56, R70, R87: an instruction that stores to or modifies a memory operand changes no byte of `cpu_mem` but the one at its
effective address, and none there when that is a window register; it changes a byte of the picture-unit space only through
0x2007, and then only the one at the pointer (which the read of a modify has moved once). -/
def Obligations.StoringFrame : Prop :=
  ∀ (i : Instr) (s t : State) (m : Addressing) (use : Use), memoryUse i = some (m, use) → use ≠ .reads →
    exec i s = .next t →
    let ea := (effective m s).ea
    (∀ a, a ≠ ea.toNat ∨ (0x2000 ≤ a ∧ a ≤ 0x2007) → t.cpuMem.read a = s.cpuMem.read a) ∧
    (∀ a, ea ≠ 0x2007 ∨ a ≠ (if use = .modifies then nextVram s else s.shim.vramAddr).toNat →
      t.ppuMem.read a = s.ppuMem.read a)

/-- R270, R290, R293, R295, R305: an instruction that pushes changes no byte but those that SP designated as it went down. -/
def Obligations.PushingFrame : Prop :=
  ∀ (i : Instr) (s t : State), 0 < pushes i → exec i s = .next t →
    (∀ a, (∀ k < pushes i, a ≠ stackByte (s.sp - BitVec.ofNat 8 k)) → t.cpuMem.read a = s.cpuMem.read a) ∧
    (∀ a, t.ppuMem.read a = s.ppuMem.read a)

/-- R63, R80, R87: no instruction writes the reset latch, the IRQ line, the cartridge, the parameters or the input script; one
whose data access and pointer reads are outside the window leaves the shim, the NMI latch and the picture-unit space; only an
opcode without a descriptor changes the run state. -/
def Obligations.DeviceFrame : Prop :=
  ∀ (i : Instr) (s t : State), exec i s = .next t →
    t.resetPending = s.resetPending ∧ t.irqLine = s.irqLine ∧ t.cart = s.cart ∧ t.config = s.config ∧
    t.hostEvents = s.hostEvents ∧ (i.hasDescriptor = true → t.run = s.run) ∧
    ((∀ m use, memoryUse i = some (m, use) → shimReg (effective m s).ea = none) →
      (∀ p, i = .jmp (.ind p) → shimReg p = none ∧ shimReg (word (loByte p + 1) (hiByte p)) = none) →
      t.shim = s.shim ∧ t.nmiPending = s.nmiPending ∧ t.draws = s.draws ∧ t.ppuMem = s.ppuMem)

/-- R80, R131, R404: every step answers a next state, and none changes the cartridge or the parameters. -/
def Obligations.StepNeverStops : Prop :=
  ∀ s : State, ∃ t, step s = .next t ∧ t.cart = s.cart ∧ t.config = s.config ∧ t.hostEvents = s.hostEvents.tail

/-- R28, R37, R153, R401: a step from any state that meets the invariant leads to a state that meets it. -/
def Obligations.StepKeepsInvariant : Prop :=
  ∀ s t : State, Inv s → step s = .next t → Inv t

/-- The state after reset meets the invariant. -/
def Obligations.ResetMeetsInvariant : Prop := Inv State.reset

/-! ### Round trips -/

/-- R271, R292, R306, R427, R430: RTS undoes JSR, PLA and PLP undo PHA and PHP, RTI undoes BRK and the two interrupt services: SP,
the saved registers and the address to go on at come back. -/
def Obligations.StackRoundTrips : Prop :=
  ∀ s : State, s.cpuMem.wf cpuMemSize = true →
    (∀ a, ∃ t, exec (.jsr a) s = .next t ∧ exec .rts t = .next { t with pc := s.pc + 3, sp := s.sp, budget := 5 }) ∧
    (∃ t, exec .pha s = .next t ∧
      exec .pla t = .next { t with pc := s.pc + 2, sp := s.sp, a := s.a, p := nz s.p s.a, budget := 3 }) ∧
    (∃ t, exec .php s = .next t ∧
      exec .plp t = .next { t with pc := s.pc + 2, sp := s.sp, p := { s.p with b := false }, budget := 3 }) ∧
    (∃ t, exec .brk s = .next t ∧
      exec .rti t = .next { t with pc := s.pc + 2, sp := s.sp, p := { s.p with b := false }, budget := 5 }) ∧
    (exec .rti (serviceNmi s) =
      .next { serviceNmi s with pc := s.pc, sp := s.sp, p := { s.p with b := false }, budget := 5 }) ∧
    (exec .rti (serviceIrq s) =
      .next { serviceIrq s with pc := s.pc, sp := s.sp, p := { s.p with b := false }, budget := 5 })

/-! ### The other actors and the loader -/

/-- R412, R413, R452: what each event of another actor does before the tick, and nothing else. Two things are the MODEL'S OWN: the
events are a script in State, one batch before each tick (log 2, a design choice), and the clauses hold of a halted engine too,
where a reset request does not set its latch while the VBlank flag, the NMI latch and the line change as in a running one (log 10,
a deduction). -/
def Obligations.HostEvents : Prop :=
  ∀ (s : State) (rest : List (List HostEvent)),
    (s.hostEvents = [.vblankStart] :: rest → s.shim.ctrl.getLsbD 7 = true →
      deliver s = { s with hostEvents := rest, shim := { s.shim with vblank := true }, nmiPending := true }) ∧
    (s.hostEvents = [.vblankStart] :: rest → s.shim.ctrl.getLsbD 7 = false →
      deliver s = { s with hostEvents := rest, shim := { s.shim with vblank := true } }) ∧
    (s.hostEvents = [.vblankEnd] :: rest →
      deliver s = { s with hostEvents := rest, shim := { s.shim with vblank := false } }) ∧
    (∀ high, s.hostEvents = [.irqLevel high] :: rest → deliver s = { s with hostEvents := rest, irqLine := high }) ∧
    (s.hostEvents = [.resetRequest] :: rest → s.run = .running →
      deliver s = { s with hostEvents := rest, resetPending := true }) ∧
    (∀ reason, s.hostEvents = [.resetRequest] :: rest → s.run = .halted reason → deliver s = { s with hostEvents := rest }) ∧
    (s.hostEvents = [] → deliver s = s)

/-- R74, R75, R76, R77, R402, R403: the mapper id, then the checks of a mapper-0 image, decide whether a load fails; a load that
does not fail leaves everything but the cartridge and the two memories. (Which reason an image with both of R77's faults reports
is the model's choice, log 9, and is left open here.) -/
def Obligations.LoadChecks : Prop :=
  ∀ (image : List Byte) (s : State), 16 ≤ image.length →
    let id := (image.getD 7 0 &&& 0xF0) ||| (image.getD 6 0 >>> 4)
    let prg := (image.getD 4 0).toNat
    let chr := (image.getD 5 0).toNat
    let counts := (prg = 1 ∨ prg = 2) ∧ (chr = 0 ∨ chr = 1)
    let long := 16 + 16384 * prg + 8192 * chr ≤ image.length
    (id ≠ 0 → loadRom image s = .fault (.mapperUnsupported id)) ∧
    (id = 0 → ¬counts → long → loadRom image s = .fault (.imageUnsupported .bankCount)) ∧
    (id = 0 → counts → ¬long → loadRom image s = .fault (.imageUnsupported .length)) ∧
    (id = 0 → ¬counts → ¬long → ∃ reason, loadRom image s = .fault (.imageUnsupported reason)) ∧
    (id = 0 → counts → long →
      ∃ m n, loadRom image s = .next
        { s with
          cart := { image := image, prgBanks := image.getD 4 0, chrBanks := image.getD 5 0, mapperId := 0 }
          cpuMem := m
          ppuMem := n })

/-- R78, R79: where a load puts the banks: one program bank at both bases, or two in order; a pattern bank at 0x0000 of the
picture-unit space, or nothing there; every other byte is left. -/
def Obligations.Projections : Prop :=
  ∀ (image : List Byte) (s t : State), s.cpuMem.wf cpuMemSize = true → s.ppuMem.wf ppuMemSize = true →
    loadRom image s = .next t →
    let prg := (image.getD 4 0).toNat
    let chr := (image.getD 5 0).toNat
    (prg = 1 → ∀ k < 0x4000, t.cpuMem.read (0x8000 + k) = image.getD (16 + k) 0 ∧
      t.cpuMem.read (0xC000 + k) = image.getD (16 + k) 0) ∧
    (prg = 2 → ∀ k < 0x8000, t.cpuMem.read (0x8000 + k) = image.getD (16 + k) 0) ∧
    (∀ a < 0x8000, t.cpuMem.read a = s.cpuMem.read a) ∧
    (chr = 1 → ∀ k < 0x2000, t.ppuMem.read k = image.getD (16 + 16384 * prg + k) 0) ∧
    (chr = 0 → ∀ a, t.ppuMem.read a = s.ppuMem.read a) ∧
    (∀ a, 0x2000 ≤ a → t.ppuMem.read a = s.ppuMem.read a)

/-! ### The instruction-level step -/

/-- R154: from a boundary, `Step` applies one `Boundary()`, with the events before its tick seen by it, and runs the ticks up to the
next boundary or Halted, none of which is a boundary. Those ticks change no register, flag, memory byte or run state of what the
boundary left (`b`): only the events that lie before them are applied, in order, for the next boundary to see. (That events come
as a script is the model's choice, log 2.) -/
def Obligations.InstructionStep : Prop :=
  ∀ s : State, AtBoundary s →
    ∃ b, step s = .next b ∧ boundary (deliver s) = .next b ∧
      (∀ k < b.budget, ∃ u : State, Sys2Proof.core.run (k + 1) s = .next u ∧ u.run = .running ∧ 0 < u.budget) ∧
      let t := { applyEvents (b.hostEvents.take b.budget).flatten b with budget := 0, hostEvents := b.hostEvents.drop b.budget }
      instructionStep s = .next t ∧ Sys2Proof.core.run (b.budget + 1) s = .next t ∧
      (AtBoundary t ∨ ∃ reason, t.run = .halted reason) ∧
      t.a = b.a ∧ t.x = b.x ∧ t.y = b.y ∧ t.sp = b.sp ∧ t.pc = b.pc ∧ t.p = b.p ∧ t.run = b.run ∧ t.cpuMem = b.cpuMem ∧
      t.ppuMem = b.ppuMem ∧ t.cart = b.cart ∧ t.config = b.config

/-- R154: a model in which events occur at boundaries only admits every run of the tick machine. `k` instruction-level steps are
some number `n` of ticks; there are `k` batches of events, which with `late` make up the events before those ticks, in order, such
that one boundary for each batch leads to the state the ticks lead to, but for the events of `late`, which the next boundary is to
see. (The script of events is the model's choice, log 2.) -/
def Obligations.BoundariesAdmitTickRuns : Prop :=
  ∀ (k : Nat) (s : State), s.budget = 0 →
    ∃ (n : Nat) (t u : State) (batches : List (List HostEvent)) (late : List HostEvent),
      instructionCore.run k s = .next t ∧ Sys2Proof.core.run n s = .next t ∧
      batches.length = k ∧ batches.flatten ++ late = (s.hostEvents.take n).flatten ∧
      boundaryRun batches { s with hostEvents := [] } = .next u ∧
      t = { applyEvents late u with hostEvents := s.hostEvents.drop n }
end

