-- ==== Sys2Proof/Laws/Decode.lean ====
section
/-! SUPPORT. What the opcode byte alone fixes (R100, R101): the operand bytes change neither the mode of an instruction, nor
whether it is documented. -/

namespace Sys2Proof

/-- Two instructions have the same mode and the same standing. -/
def SameShape (i j : Instr) : Prop := i.mode = j.mode ∧ i.documented = j.documented

/-- An instruction has a descriptor exactly when it has a mode (R107). -/
theorem hasDescriptor_eq (i : Instr) : i.hasDescriptor = i.mode.isSome := by cases i <;> rfl

theorem opcodeRow0_shape (lo : Nat) (b1 b2 : Byte) : SameShape (opcodeRow0 lo b1 b2) (opcodeRow0 lo 0 0) := by
  rcases lo with _ | _ | _ | _ | _ | _ | _ | _ | _ | _ | _ | _ | _ | _ | _ | _ <;> exact ⟨rfl, rfl⟩
theorem opcodeRow1_shape (lo : Nat) (b1 b2 : Byte) : SameShape (opcodeRow1 lo b1 b2) (opcodeRow1 lo 0 0) := by
  rcases lo with _ | _ | _ | _ | _ | _ | _ | _ | _ | _ | _ | _ | _ | _ | _ | _ <;> exact ⟨rfl, rfl⟩
theorem opcodeRow2_shape (lo : Nat) (b1 b2 : Byte) : SameShape (opcodeRow2 lo b1 b2) (opcodeRow2 lo 0 0) := by
  rcases lo with _ | _ | _ | _ | _ | _ | _ | _ | _ | _ | _ | _ | _ | _ | _ | _ <;> exact ⟨rfl, rfl⟩
theorem opcodeRow3_shape (lo : Nat) (b1 b2 : Byte) : SameShape (opcodeRow3 lo b1 b2) (opcodeRow3 lo 0 0) := by
  rcases lo with _ | _ | _ | _ | _ | _ | _ | _ | _ | _ | _ | _ | _ | _ | _ | _ <;> exact ⟨rfl, rfl⟩
theorem opcodeRow4_shape (lo : Nat) (b1 b2 : Byte) : SameShape (opcodeRow4 lo b1 b2) (opcodeRow4 lo 0 0) := by
  rcases lo with _ | _ | _ | _ | _ | _ | _ | _ | _ | _ | _ | _ | _ | _ | _ | _ <;> exact ⟨rfl, rfl⟩
theorem opcodeRow5_shape (lo : Nat) (b1 b2 : Byte) : SameShape (opcodeRow5 lo b1 b2) (opcodeRow5 lo 0 0) := by
  rcases lo with _ | _ | _ | _ | _ | _ | _ | _ | _ | _ | _ | _ | _ | _ | _ | _ <;> exact ⟨rfl, rfl⟩
theorem opcodeRow6_shape (lo : Nat) (b1 b2 : Byte) : SameShape (opcodeRow6 lo b1 b2) (opcodeRow6 lo 0 0) := by
  rcases lo with _ | _ | _ | _ | _ | _ | _ | _ | _ | _ | _ | _ | _ | _ | _ | _ <;> exact ⟨rfl, rfl⟩
theorem opcodeRow7_shape (lo : Nat) (b1 b2 : Byte) : SameShape (opcodeRow7 lo b1 b2) (opcodeRow7 lo 0 0) := by
  rcases lo with _ | _ | _ | _ | _ | _ | _ | _ | _ | _ | _ | _ | _ | _ | _ | _ <;> exact ⟨rfl, rfl⟩
theorem opcodeRow8_shape (lo : Nat) (b1 b2 : Byte) : SameShape (opcodeRow8 lo b1 b2) (opcodeRow8 lo 0 0) := by
  rcases lo with _ | _ | _ | _ | _ | _ | _ | _ | _ | _ | _ | _ | _ | _ | _ | _ <;> exact ⟨rfl, rfl⟩
theorem opcodeRow9_shape (lo : Nat) (b1 b2 : Byte) : SameShape (opcodeRow9 lo b1 b2) (opcodeRow9 lo 0 0) := by
  rcases lo with _ | _ | _ | _ | _ | _ | _ | _ | _ | _ | _ | _ | _ | _ | _ | _ <;> exact ⟨rfl, rfl⟩
theorem opcodeRowA_shape (lo : Nat) (b1 b2 : Byte) : SameShape (opcodeRowA lo b1 b2) (opcodeRowA lo 0 0) := by
  rcases lo with _ | _ | _ | _ | _ | _ | _ | _ | _ | _ | _ | _ | _ | _ | _ | _ <;> exact ⟨rfl, rfl⟩
theorem opcodeRowB_shape (lo : Nat) (b1 b2 : Byte) : SameShape (opcodeRowB lo b1 b2) (opcodeRowB lo 0 0) := by
  rcases lo with _ | _ | _ | _ | _ | _ | _ | _ | _ | _ | _ | _ | _ | _ | _ | _ <;> exact ⟨rfl, rfl⟩
theorem opcodeRowC_shape (lo : Nat) (b1 b2 : Byte) : SameShape (opcodeRowC lo b1 b2) (opcodeRowC lo 0 0) := by
  rcases lo with _ | _ | _ | _ | _ | _ | _ | _ | _ | _ | _ | _ | _ | _ | _ | _ <;> exact ⟨rfl, rfl⟩
theorem opcodeRowD_shape (lo : Nat) (b1 b2 : Byte) : SameShape (opcodeRowD lo b1 b2) (opcodeRowD lo 0 0) := by
  rcases lo with _ | _ | _ | _ | _ | _ | _ | _ | _ | _ | _ | _ | _ | _ | _ | _ <;> exact ⟨rfl, rfl⟩
theorem opcodeRowE_shape (lo : Nat) (b1 b2 : Byte) : SameShape (opcodeRowE lo b1 b2) (opcodeRowE lo 0 0) := by
  rcases lo with _ | _ | _ | _ | _ | _ | _ | _ | _ | _ | _ | _ | _ | _ | _ | _ <;> exact ⟨rfl, rfl⟩
theorem opcodeRowF_shape (lo : Nat) (b1 b2 : Byte) : SameShape (opcodeRowF lo b1 b2) (opcodeRowF lo 0 0) := by
  rcases lo with _ | _ | _ | _ | _ | _ | _ | _ | _ | _ | _ | _ | _ | _ | _ | _ <;> exact ⟨rfl, rfl⟩

/-- The operand bytes change nothing of an instruction's shape. -/
theorem instrOf_shape (op b1 b2 : Byte) : SameShape (instrOf op b1 b2) (instrOf op 0 0) := by
  unfold instrOf
  dsimp only
  split
  · exact opcodeRow0_shape _ _ _
  · exact opcodeRow1_shape _ _ _
  · exact opcodeRow2_shape _ _ _
  · exact opcodeRow3_shape _ _ _
  · exact opcodeRow4_shape _ _ _
  · exact opcodeRow5_shape _ _ _
  · exact opcodeRow6_shape _ _ _
  · exact opcodeRow7_shape _ _ _
  · exact opcodeRow8_shape _ _ _
  · exact opcodeRow9_shape _ _ _
  · exact opcodeRowA_shape _ _ _
  · exact opcodeRowB_shape _ _ _
  · exact opcodeRowC_shape _ _ _
  · exact opcodeRowD_shape _ _ _
  · exact opcodeRowE_shape _ _ _
  · exact opcodeRowF_shape _ _ _

theorem instrOf_operandLength (op b1 b2 : Byte) : (instrOf op b1 b2).operandLength = (instrOf op 0 0).operandLength := by
  simp only [Instr.operandLength, (instrOf_shape op b1 b2).1]

theorem instrOf_admitted (unofficial : Bool) (op b1 b2 : Byte) :
    (instrOf op b1 b2).admitted unofficial = (instrOf op 0 0).admitted unofficial := by
  simp only [Instr.admitted, hasDescriptor_eq, (instrOf_shape op b1 b2).1, (instrOf_shape op b1 b2).2]

end Sys2Proof
end

