-- ==== Sys2Proof/Laws/State.lean ====
section
/-! SUPPORT. One lemma per field per update of State: no later proof unfolds a record update. -/

namespace Sys2Proof.Machine.State

variable (s : State)

@[simp] theorem setA_a (v : Byte) : (s.setA v).a = v := rfl
@[simp] theorem setA_x (v : Byte) : (s.setA v).x = s.x := rfl
@[simp] theorem setA_y (v : Byte) : (s.setA v).y = s.y := rfl
@[simp] theorem setA_sp (v : Byte) : (s.setA v).sp = s.sp := rfl
@[simp] theorem setA_pc (v : Byte) : (s.setA v).pc = s.pc := rfl
@[simp] theorem setA_p (v : Byte) : (s.setA v).p = s.p := rfl
@[simp] theorem setA_run (v : Byte) : (s.setA v).run = s.run := rfl
@[simp] theorem setA_budget (v : Byte) : (s.setA v).budget = s.budget := rfl
@[simp] theorem setA_resetPending (v : Byte) : (s.setA v).resetPending = s.resetPending := rfl
@[simp] theorem setA_nmiPending (v : Byte) : (s.setA v).nmiPending = s.nmiPending := rfl
@[simp] theorem setA_irqLine (v : Byte) : (s.setA v).irqLine = s.irqLine := rfl
@[simp] theorem setA_cpuMem (v : Byte) : (s.setA v).cpuMem = s.cpuMem := rfl
@[simp] theorem setA_ppuMem (v : Byte) : (s.setA v).ppuMem = s.ppuMem := rfl
@[simp] theorem setA_shim (v : Byte) : (s.setA v).shim = s.shim := rfl
@[simp] theorem setA_cart (v : Byte) : (s.setA v).cart = s.cart := rfl
@[simp] theorem setA_config (v : Byte) : (s.setA v).config = s.config := rfl
@[simp] theorem setA_draws (v : Byte) : (s.setA v).draws = s.draws := rfl
@[simp] theorem setA_hostEvents (v : Byte) : (s.setA v).hostEvents = s.hostEvents := rfl

@[simp] theorem setX_a (v : Byte) : (s.setX v).a = s.a := rfl
@[simp] theorem setX_x (v : Byte) : (s.setX v).x = v := rfl
@[simp] theorem setX_y (v : Byte) : (s.setX v).y = s.y := rfl
@[simp] theorem setX_sp (v : Byte) : (s.setX v).sp = s.sp := rfl
@[simp] theorem setX_pc (v : Byte) : (s.setX v).pc = s.pc := rfl
@[simp] theorem setX_p (v : Byte) : (s.setX v).p = s.p := rfl
@[simp] theorem setX_run (v : Byte) : (s.setX v).run = s.run := rfl
@[simp] theorem setX_budget (v : Byte) : (s.setX v).budget = s.budget := rfl
@[simp] theorem setX_resetPending (v : Byte) : (s.setX v).resetPending = s.resetPending := rfl
@[simp] theorem setX_nmiPending (v : Byte) : (s.setX v).nmiPending = s.nmiPending := rfl
@[simp] theorem setX_irqLine (v : Byte) : (s.setX v).irqLine = s.irqLine := rfl
@[simp] theorem setX_cpuMem (v : Byte) : (s.setX v).cpuMem = s.cpuMem := rfl
@[simp] theorem setX_ppuMem (v : Byte) : (s.setX v).ppuMem = s.ppuMem := rfl
@[simp] theorem setX_shim (v : Byte) : (s.setX v).shim = s.shim := rfl
@[simp] theorem setX_cart (v : Byte) : (s.setX v).cart = s.cart := rfl
@[simp] theorem setX_config (v : Byte) : (s.setX v).config = s.config := rfl
@[simp] theorem setX_draws (v : Byte) : (s.setX v).draws = s.draws := rfl
@[simp] theorem setX_hostEvents (v : Byte) : (s.setX v).hostEvents = s.hostEvents := rfl

@[simp] theorem setY_a (v : Byte) : (s.setY v).a = s.a := rfl
@[simp] theorem setY_x (v : Byte) : (s.setY v).x = s.x := rfl
@[simp] theorem setY_y (v : Byte) : (s.setY v).y = v := rfl
@[simp] theorem setY_sp (v : Byte) : (s.setY v).sp = s.sp := rfl
@[simp] theorem setY_pc (v : Byte) : (s.setY v).pc = s.pc := rfl
@[simp] theorem setY_p (v : Byte) : (s.setY v).p = s.p := rfl
@[simp] theorem setY_run (v : Byte) : (s.setY v).run = s.run := rfl
@[simp] theorem setY_budget (v : Byte) : (s.setY v).budget = s.budget := rfl
@[simp] theorem setY_resetPending (v : Byte) : (s.setY v).resetPending = s.resetPending := rfl
@[simp] theorem setY_nmiPending (v : Byte) : (s.setY v).nmiPending = s.nmiPending := rfl
@[simp] theorem setY_irqLine (v : Byte) : (s.setY v).irqLine = s.irqLine := rfl
@[simp] theorem setY_cpuMem (v : Byte) : (s.setY v).cpuMem = s.cpuMem := rfl
@[simp] theorem setY_ppuMem (v : Byte) : (s.setY v).ppuMem = s.ppuMem := rfl
@[simp] theorem setY_shim (v : Byte) : (s.setY v).shim = s.shim := rfl
@[simp] theorem setY_cart (v : Byte) : (s.setY v).cart = s.cart := rfl
@[simp] theorem setY_config (v : Byte) : (s.setY v).config = s.config := rfl
@[simp] theorem setY_draws (v : Byte) : (s.setY v).draws = s.draws := rfl
@[simp] theorem setY_hostEvents (v : Byte) : (s.setY v).hostEvents = s.hostEvents := rfl

@[simp] theorem setSp_a (v : Byte) : (s.setSp v).a = s.a := rfl
@[simp] theorem setSp_x (v : Byte) : (s.setSp v).x = s.x := rfl
@[simp] theorem setSp_y (v : Byte) : (s.setSp v).y = s.y := rfl
@[simp] theorem setSp_sp (v : Byte) : (s.setSp v).sp = v := rfl
@[simp] theorem setSp_pc (v : Byte) : (s.setSp v).pc = s.pc := rfl
@[simp] theorem setSp_p (v : Byte) : (s.setSp v).p = s.p := rfl
@[simp] theorem setSp_run (v : Byte) : (s.setSp v).run = s.run := rfl
@[simp] theorem setSp_budget (v : Byte) : (s.setSp v).budget = s.budget := rfl
@[simp] theorem setSp_resetPending (v : Byte) : (s.setSp v).resetPending = s.resetPending := rfl
@[simp] theorem setSp_nmiPending (v : Byte) : (s.setSp v).nmiPending = s.nmiPending := rfl
@[simp] theorem setSp_irqLine (v : Byte) : (s.setSp v).irqLine = s.irqLine := rfl
@[simp] theorem setSp_cpuMem (v : Byte) : (s.setSp v).cpuMem = s.cpuMem := rfl
@[simp] theorem setSp_ppuMem (v : Byte) : (s.setSp v).ppuMem = s.ppuMem := rfl
@[simp] theorem setSp_shim (v : Byte) : (s.setSp v).shim = s.shim := rfl
@[simp] theorem setSp_cart (v : Byte) : (s.setSp v).cart = s.cart := rfl
@[simp] theorem setSp_config (v : Byte) : (s.setSp v).config = s.config := rfl
@[simp] theorem setSp_draws (v : Byte) : (s.setSp v).draws = s.draws := rfl
@[simp] theorem setSp_hostEvents (v : Byte) : (s.setSp v).hostEvents = s.hostEvents := rfl

@[simp] theorem setPc_a (v : Addr) : (s.setPc v).a = s.a := rfl
@[simp] theorem setPc_x (v : Addr) : (s.setPc v).x = s.x := rfl
@[simp] theorem setPc_y (v : Addr) : (s.setPc v).y = s.y := rfl
@[simp] theorem setPc_sp (v : Addr) : (s.setPc v).sp = s.sp := rfl
@[simp] theorem setPc_pc (v : Addr) : (s.setPc v).pc = v := rfl
@[simp] theorem setPc_p (v : Addr) : (s.setPc v).p = s.p := rfl
@[simp] theorem setPc_run (v : Addr) : (s.setPc v).run = s.run := rfl
@[simp] theorem setPc_budget (v : Addr) : (s.setPc v).budget = s.budget := rfl
@[simp] theorem setPc_resetPending (v : Addr) : (s.setPc v).resetPending = s.resetPending := rfl
@[simp] theorem setPc_nmiPending (v : Addr) : (s.setPc v).nmiPending = s.nmiPending := rfl
@[simp] theorem setPc_irqLine (v : Addr) : (s.setPc v).irqLine = s.irqLine := rfl
@[simp] theorem setPc_cpuMem (v : Addr) : (s.setPc v).cpuMem = s.cpuMem := rfl
@[simp] theorem setPc_ppuMem (v : Addr) : (s.setPc v).ppuMem = s.ppuMem := rfl
@[simp] theorem setPc_shim (v : Addr) : (s.setPc v).shim = s.shim := rfl
@[simp] theorem setPc_cart (v : Addr) : (s.setPc v).cart = s.cart := rfl
@[simp] theorem setPc_config (v : Addr) : (s.setPc v).config = s.config := rfl
@[simp] theorem setPc_draws (v : Addr) : (s.setPc v).draws = s.draws := rfl
@[simp] theorem setPc_hostEvents (v : Addr) : (s.setPc v).hostEvents = s.hostEvents := rfl

@[simp] theorem setP_a (v : Status) : (s.setP v).a = s.a := rfl
@[simp] theorem setP_x (v : Status) : (s.setP v).x = s.x := rfl
@[simp] theorem setP_y (v : Status) : (s.setP v).y = s.y := rfl
@[simp] theorem setP_sp (v : Status) : (s.setP v).sp = s.sp := rfl
@[simp] theorem setP_pc (v : Status) : (s.setP v).pc = s.pc := rfl
@[simp] theorem setP_p (v : Status) : (s.setP v).p = v := rfl
@[simp] theorem setP_run (v : Status) : (s.setP v).run = s.run := rfl
@[simp] theorem setP_budget (v : Status) : (s.setP v).budget = s.budget := rfl
@[simp] theorem setP_resetPending (v : Status) : (s.setP v).resetPending = s.resetPending := rfl
@[simp] theorem setP_nmiPending (v : Status) : (s.setP v).nmiPending = s.nmiPending := rfl
@[simp] theorem setP_irqLine (v : Status) : (s.setP v).irqLine = s.irqLine := rfl
@[simp] theorem setP_cpuMem (v : Status) : (s.setP v).cpuMem = s.cpuMem := rfl
@[simp] theorem setP_ppuMem (v : Status) : (s.setP v).ppuMem = s.ppuMem := rfl
@[simp] theorem setP_shim (v : Status) : (s.setP v).shim = s.shim := rfl
@[simp] theorem setP_cart (v : Status) : (s.setP v).cart = s.cart := rfl
@[simp] theorem setP_config (v : Status) : (s.setP v).config = s.config := rfl
@[simp] theorem setP_draws (v : Status) : (s.setP v).draws = s.draws := rfl
@[simp] theorem setP_hostEvents (v : Status) : (s.setP v).hostEvents = s.hostEvents := rfl

@[simp] theorem setRun_a (v : RunState) : (s.setRun v).a = s.a := rfl
@[simp] theorem setRun_x (v : RunState) : (s.setRun v).x = s.x := rfl
@[simp] theorem setRun_y (v : RunState) : (s.setRun v).y = s.y := rfl
@[simp] theorem setRun_sp (v : RunState) : (s.setRun v).sp = s.sp := rfl
@[simp] theorem setRun_pc (v : RunState) : (s.setRun v).pc = s.pc := rfl
@[simp] theorem setRun_p (v : RunState) : (s.setRun v).p = s.p := rfl
@[simp] theorem setRun_run (v : RunState) : (s.setRun v).run = v := rfl
@[simp] theorem setRun_budget (v : RunState) : (s.setRun v).budget = s.budget := rfl
@[simp] theorem setRun_resetPending (v : RunState) : (s.setRun v).resetPending = s.resetPending := rfl
@[simp] theorem setRun_nmiPending (v : RunState) : (s.setRun v).nmiPending = s.nmiPending := rfl
@[simp] theorem setRun_irqLine (v : RunState) : (s.setRun v).irqLine = s.irqLine := rfl
@[simp] theorem setRun_cpuMem (v : RunState) : (s.setRun v).cpuMem = s.cpuMem := rfl
@[simp] theorem setRun_ppuMem (v : RunState) : (s.setRun v).ppuMem = s.ppuMem := rfl
@[simp] theorem setRun_shim (v : RunState) : (s.setRun v).shim = s.shim := rfl
@[simp] theorem setRun_cart (v : RunState) : (s.setRun v).cart = s.cart := rfl
@[simp] theorem setRun_config (v : RunState) : (s.setRun v).config = s.config := rfl
@[simp] theorem setRun_draws (v : RunState) : (s.setRun v).draws = s.draws := rfl
@[simp] theorem setRun_hostEvents (v : RunState) : (s.setRun v).hostEvents = s.hostEvents := rfl

@[simp] theorem setBudget_a (v : Nat) : (s.setBudget v).a = s.a := rfl
@[simp] theorem setBudget_x (v : Nat) : (s.setBudget v).x = s.x := rfl
@[simp] theorem setBudget_y (v : Nat) : (s.setBudget v).y = s.y := rfl
@[simp] theorem setBudget_sp (v : Nat) : (s.setBudget v).sp = s.sp := rfl
@[simp] theorem setBudget_pc (v : Nat) : (s.setBudget v).pc = s.pc := rfl
@[simp] theorem setBudget_p (v : Nat) : (s.setBudget v).p = s.p := rfl
@[simp] theorem setBudget_run (v : Nat) : (s.setBudget v).run = s.run := rfl
@[simp] theorem setBudget_budget (v : Nat) : (s.setBudget v).budget = v := rfl
@[simp] theorem setBudget_resetPending (v : Nat) : (s.setBudget v).resetPending = s.resetPending := rfl
@[simp] theorem setBudget_nmiPending (v : Nat) : (s.setBudget v).nmiPending = s.nmiPending := rfl
@[simp] theorem setBudget_irqLine (v : Nat) : (s.setBudget v).irqLine = s.irqLine := rfl
@[simp] theorem setBudget_cpuMem (v : Nat) : (s.setBudget v).cpuMem = s.cpuMem := rfl
@[simp] theorem setBudget_ppuMem (v : Nat) : (s.setBudget v).ppuMem = s.ppuMem := rfl
@[simp] theorem setBudget_shim (v : Nat) : (s.setBudget v).shim = s.shim := rfl
@[simp] theorem setBudget_cart (v : Nat) : (s.setBudget v).cart = s.cart := rfl
@[simp] theorem setBudget_config (v : Nat) : (s.setBudget v).config = s.config := rfl
@[simp] theorem setBudget_draws (v : Nat) : (s.setBudget v).draws = s.draws := rfl
@[simp] theorem setBudget_hostEvents (v : Nat) : (s.setBudget v).hostEvents = s.hostEvents := rfl

@[simp] theorem setResetPending_a (v : Bool) : (s.setResetPending v).a = s.a := rfl
@[simp] theorem setResetPending_x (v : Bool) : (s.setResetPending v).x = s.x := rfl
@[simp] theorem setResetPending_y (v : Bool) : (s.setResetPending v).y = s.y := rfl
@[simp] theorem setResetPending_sp (v : Bool) : (s.setResetPending v).sp = s.sp := rfl
@[simp] theorem setResetPending_pc (v : Bool) : (s.setResetPending v).pc = s.pc := rfl
@[simp] theorem setResetPending_p (v : Bool) : (s.setResetPending v).p = s.p := rfl
@[simp] theorem setResetPending_run (v : Bool) : (s.setResetPending v).run = s.run := rfl
@[simp] theorem setResetPending_budget (v : Bool) : (s.setResetPending v).budget = s.budget := rfl
@[simp] theorem setResetPending_resetPending (v : Bool) : (s.setResetPending v).resetPending = v := rfl
@[simp] theorem setResetPending_nmiPending (v : Bool) : (s.setResetPending v).nmiPending = s.nmiPending := rfl
@[simp] theorem setResetPending_irqLine (v : Bool) : (s.setResetPending v).irqLine = s.irqLine := rfl
@[simp] theorem setResetPending_cpuMem (v : Bool) : (s.setResetPending v).cpuMem = s.cpuMem := rfl
@[simp] theorem setResetPending_ppuMem (v : Bool) : (s.setResetPending v).ppuMem = s.ppuMem := rfl
@[simp] theorem setResetPending_shim (v : Bool) : (s.setResetPending v).shim = s.shim := rfl
@[simp] theorem setResetPending_cart (v : Bool) : (s.setResetPending v).cart = s.cart := rfl
@[simp] theorem setResetPending_config (v : Bool) : (s.setResetPending v).config = s.config := rfl
@[simp] theorem setResetPending_draws (v : Bool) : (s.setResetPending v).draws = s.draws := rfl
@[simp] theorem setResetPending_hostEvents (v : Bool) : (s.setResetPending v).hostEvents = s.hostEvents := rfl

@[simp] theorem setNmiPending_a (v : Bool) : (s.setNmiPending v).a = s.a := rfl
@[simp] theorem setNmiPending_x (v : Bool) : (s.setNmiPending v).x = s.x := rfl
@[simp] theorem setNmiPending_y (v : Bool) : (s.setNmiPending v).y = s.y := rfl
@[simp] theorem setNmiPending_sp (v : Bool) : (s.setNmiPending v).sp = s.sp := rfl
@[simp] theorem setNmiPending_pc (v : Bool) : (s.setNmiPending v).pc = s.pc := rfl
@[simp] theorem setNmiPending_p (v : Bool) : (s.setNmiPending v).p = s.p := rfl
@[simp] theorem setNmiPending_run (v : Bool) : (s.setNmiPending v).run = s.run := rfl
@[simp] theorem setNmiPending_budget (v : Bool) : (s.setNmiPending v).budget = s.budget := rfl
@[simp] theorem setNmiPending_resetPending (v : Bool) : (s.setNmiPending v).resetPending = s.resetPending := rfl
@[simp] theorem setNmiPending_nmiPending (v : Bool) : (s.setNmiPending v).nmiPending = v := rfl
@[simp] theorem setNmiPending_irqLine (v : Bool) : (s.setNmiPending v).irqLine = s.irqLine := rfl
@[simp] theorem setNmiPending_cpuMem (v : Bool) : (s.setNmiPending v).cpuMem = s.cpuMem := rfl
@[simp] theorem setNmiPending_ppuMem (v : Bool) : (s.setNmiPending v).ppuMem = s.ppuMem := rfl
@[simp] theorem setNmiPending_shim (v : Bool) : (s.setNmiPending v).shim = s.shim := rfl
@[simp] theorem setNmiPending_cart (v : Bool) : (s.setNmiPending v).cart = s.cart := rfl
@[simp] theorem setNmiPending_config (v : Bool) : (s.setNmiPending v).config = s.config := rfl
@[simp] theorem setNmiPending_draws (v : Bool) : (s.setNmiPending v).draws = s.draws := rfl
@[simp] theorem setNmiPending_hostEvents (v : Bool) : (s.setNmiPending v).hostEvents = s.hostEvents := rfl

@[simp] theorem setIrqLine_a (v : Bool) : (s.setIrqLine v).a = s.a := rfl
@[simp] theorem setIrqLine_x (v : Bool) : (s.setIrqLine v).x = s.x := rfl
@[simp] theorem setIrqLine_y (v : Bool) : (s.setIrqLine v).y = s.y := rfl
@[simp] theorem setIrqLine_sp (v : Bool) : (s.setIrqLine v).sp = s.sp := rfl
@[simp] theorem setIrqLine_pc (v : Bool) : (s.setIrqLine v).pc = s.pc := rfl
@[simp] theorem setIrqLine_p (v : Bool) : (s.setIrqLine v).p = s.p := rfl
@[simp] theorem setIrqLine_run (v : Bool) : (s.setIrqLine v).run = s.run := rfl
@[simp] theorem setIrqLine_budget (v : Bool) : (s.setIrqLine v).budget = s.budget := rfl
@[simp] theorem setIrqLine_resetPending (v : Bool) : (s.setIrqLine v).resetPending = s.resetPending := rfl
@[simp] theorem setIrqLine_nmiPending (v : Bool) : (s.setIrqLine v).nmiPending = s.nmiPending := rfl
@[simp] theorem setIrqLine_irqLine (v : Bool) : (s.setIrqLine v).irqLine = v := rfl
@[simp] theorem setIrqLine_cpuMem (v : Bool) : (s.setIrqLine v).cpuMem = s.cpuMem := rfl
@[simp] theorem setIrqLine_ppuMem (v : Bool) : (s.setIrqLine v).ppuMem = s.ppuMem := rfl
@[simp] theorem setIrqLine_shim (v : Bool) : (s.setIrqLine v).shim = s.shim := rfl
@[simp] theorem setIrqLine_cart (v : Bool) : (s.setIrqLine v).cart = s.cart := rfl
@[simp] theorem setIrqLine_config (v : Bool) : (s.setIrqLine v).config = s.config := rfl
@[simp] theorem setIrqLine_draws (v : Bool) : (s.setIrqLine v).draws = s.draws := rfl
@[simp] theorem setIrqLine_hostEvents (v : Bool) : (s.setIrqLine v).hostEvents = s.hostEvents := rfl

@[simp] theorem setCpuMem_a (v : Memory) : (s.setCpuMem v).a = s.a := rfl
@[simp] theorem setCpuMem_x (v : Memory) : (s.setCpuMem v).x = s.x := rfl
@[simp] theorem setCpuMem_y (v : Memory) : (s.setCpuMem v).y = s.y := rfl
@[simp] theorem setCpuMem_sp (v : Memory) : (s.setCpuMem v).sp = s.sp := rfl
@[simp] theorem setCpuMem_pc (v : Memory) : (s.setCpuMem v).pc = s.pc := rfl
@[simp] theorem setCpuMem_p (v : Memory) : (s.setCpuMem v).p = s.p := rfl
@[simp] theorem setCpuMem_run (v : Memory) : (s.setCpuMem v).run = s.run := rfl
@[simp] theorem setCpuMem_budget (v : Memory) : (s.setCpuMem v).budget = s.budget := rfl
@[simp] theorem setCpuMem_resetPending (v : Memory) : (s.setCpuMem v).resetPending = s.resetPending := rfl
@[simp] theorem setCpuMem_nmiPending (v : Memory) : (s.setCpuMem v).nmiPending = s.nmiPending := rfl
@[simp] theorem setCpuMem_irqLine (v : Memory) : (s.setCpuMem v).irqLine = s.irqLine := rfl
@[simp] theorem setCpuMem_cpuMem (v : Memory) : (s.setCpuMem v).cpuMem = v := rfl
@[simp] theorem setCpuMem_ppuMem (v : Memory) : (s.setCpuMem v).ppuMem = s.ppuMem := rfl
@[simp] theorem setCpuMem_shim (v : Memory) : (s.setCpuMem v).shim = s.shim := rfl
@[simp] theorem setCpuMem_cart (v : Memory) : (s.setCpuMem v).cart = s.cart := rfl
@[simp] theorem setCpuMem_config (v : Memory) : (s.setCpuMem v).config = s.config := rfl
@[simp] theorem setCpuMem_draws (v : Memory) : (s.setCpuMem v).draws = s.draws := rfl
@[simp] theorem setCpuMem_hostEvents (v : Memory) : (s.setCpuMem v).hostEvents = s.hostEvents := rfl

@[simp] theorem setPpuMem_a (v : Memory) : (s.setPpuMem v).a = s.a := rfl
@[simp] theorem setPpuMem_x (v : Memory) : (s.setPpuMem v).x = s.x := rfl
@[simp] theorem setPpuMem_y (v : Memory) : (s.setPpuMem v).y = s.y := rfl
@[simp] theorem setPpuMem_sp (v : Memory) : (s.setPpuMem v).sp = s.sp := rfl
@[simp] theorem setPpuMem_pc (v : Memory) : (s.setPpuMem v).pc = s.pc := rfl
@[simp] theorem setPpuMem_p (v : Memory) : (s.setPpuMem v).p = s.p := rfl
@[simp] theorem setPpuMem_run (v : Memory) : (s.setPpuMem v).run = s.run := rfl
@[simp] theorem setPpuMem_budget (v : Memory) : (s.setPpuMem v).budget = s.budget := rfl
@[simp] theorem setPpuMem_resetPending (v : Memory) : (s.setPpuMem v).resetPending = s.resetPending := rfl
@[simp] theorem setPpuMem_nmiPending (v : Memory) : (s.setPpuMem v).nmiPending = s.nmiPending := rfl
@[simp] theorem setPpuMem_irqLine (v : Memory) : (s.setPpuMem v).irqLine = s.irqLine := rfl
@[simp] theorem setPpuMem_cpuMem (v : Memory) : (s.setPpuMem v).cpuMem = s.cpuMem := rfl
@[simp] theorem setPpuMem_ppuMem (v : Memory) : (s.setPpuMem v).ppuMem = v := rfl
@[simp] theorem setPpuMem_shim (v : Memory) : (s.setPpuMem v).shim = s.shim := rfl
@[simp] theorem setPpuMem_cart (v : Memory) : (s.setPpuMem v).cart = s.cart := rfl
@[simp] theorem setPpuMem_config (v : Memory) : (s.setPpuMem v).config = s.config := rfl
@[simp] theorem setPpuMem_draws (v : Memory) : (s.setPpuMem v).draws = s.draws := rfl
@[simp] theorem setPpuMem_hostEvents (v : Memory) : (s.setPpuMem v).hostEvents = s.hostEvents := rfl

@[simp] theorem setShim_a (v : Shim) : (s.setShim v).a = s.a := rfl
@[simp] theorem setShim_x (v : Shim) : (s.setShim v).x = s.x := rfl
@[simp] theorem setShim_y (v : Shim) : (s.setShim v).y = s.y := rfl
@[simp] theorem setShim_sp (v : Shim) : (s.setShim v).sp = s.sp := rfl
@[simp] theorem setShim_pc (v : Shim) : (s.setShim v).pc = s.pc := rfl
@[simp] theorem setShim_p (v : Shim) : (s.setShim v).p = s.p := rfl
@[simp] theorem setShim_run (v : Shim) : (s.setShim v).run = s.run := rfl
@[simp] theorem setShim_budget (v : Shim) : (s.setShim v).budget = s.budget := rfl
@[simp] theorem setShim_resetPending (v : Shim) : (s.setShim v).resetPending = s.resetPending := rfl
@[simp] theorem setShim_nmiPending (v : Shim) : (s.setShim v).nmiPending = s.nmiPending := rfl
@[simp] theorem setShim_irqLine (v : Shim) : (s.setShim v).irqLine = s.irqLine := rfl
@[simp] theorem setShim_cpuMem (v : Shim) : (s.setShim v).cpuMem = s.cpuMem := rfl
@[simp] theorem setShim_ppuMem (v : Shim) : (s.setShim v).ppuMem = s.ppuMem := rfl
@[simp] theorem setShim_shim (v : Shim) : (s.setShim v).shim = v := rfl
@[simp] theorem setShim_cart (v : Shim) : (s.setShim v).cart = s.cart := rfl
@[simp] theorem setShim_config (v : Shim) : (s.setShim v).config = s.config := rfl
@[simp] theorem setShim_draws (v : Shim) : (s.setShim v).draws = s.draws := rfl
@[simp] theorem setShim_hostEvents (v : Shim) : (s.setShim v).hostEvents = s.hostEvents := rfl

@[simp] theorem setCart_a (v : Cartridge) : (s.setCart v).a = s.a := rfl
@[simp] theorem setCart_x (v : Cartridge) : (s.setCart v).x = s.x := rfl
@[simp] theorem setCart_y (v : Cartridge) : (s.setCart v).y = s.y := rfl
@[simp] theorem setCart_sp (v : Cartridge) : (s.setCart v).sp = s.sp := rfl
@[simp] theorem setCart_pc (v : Cartridge) : (s.setCart v).pc = s.pc := rfl
@[simp] theorem setCart_p (v : Cartridge) : (s.setCart v).p = s.p := rfl
@[simp] theorem setCart_run (v : Cartridge) : (s.setCart v).run = s.run := rfl
@[simp] theorem setCart_budget (v : Cartridge) : (s.setCart v).budget = s.budget := rfl
@[simp] theorem setCart_resetPending (v : Cartridge) : (s.setCart v).resetPending = s.resetPending := rfl
@[simp] theorem setCart_nmiPending (v : Cartridge) : (s.setCart v).nmiPending = s.nmiPending := rfl
@[simp] theorem setCart_irqLine (v : Cartridge) : (s.setCart v).irqLine = s.irqLine := rfl
@[simp] theorem setCart_cpuMem (v : Cartridge) : (s.setCart v).cpuMem = s.cpuMem := rfl
@[simp] theorem setCart_ppuMem (v : Cartridge) : (s.setCart v).ppuMem = s.ppuMem := rfl
@[simp] theorem setCart_shim (v : Cartridge) : (s.setCart v).shim = s.shim := rfl
@[simp] theorem setCart_cart (v : Cartridge) : (s.setCart v).cart = v := rfl
@[simp] theorem setCart_config (v : Cartridge) : (s.setCart v).config = s.config := rfl
@[simp] theorem setCart_draws (v : Cartridge) : (s.setCart v).draws = s.draws := rfl
@[simp] theorem setCart_hostEvents (v : Cartridge) : (s.setCart v).hostEvents = s.hostEvents := rfl

@[simp] theorem setDraws_a (v : Nat) : (s.setDraws v).a = s.a := rfl
@[simp] theorem setDraws_x (v : Nat) : (s.setDraws v).x = s.x := rfl
@[simp] theorem setDraws_y (v : Nat) : (s.setDraws v).y = s.y := rfl
@[simp] theorem setDraws_sp (v : Nat) : (s.setDraws v).sp = s.sp := rfl
@[simp] theorem setDraws_pc (v : Nat) : (s.setDraws v).pc = s.pc := rfl
@[simp] theorem setDraws_p (v : Nat) : (s.setDraws v).p = s.p := rfl
@[simp] theorem setDraws_run (v : Nat) : (s.setDraws v).run = s.run := rfl
@[simp] theorem setDraws_budget (v : Nat) : (s.setDraws v).budget = s.budget := rfl
@[simp] theorem setDraws_resetPending (v : Nat) : (s.setDraws v).resetPending = s.resetPending := rfl
@[simp] theorem setDraws_nmiPending (v : Nat) : (s.setDraws v).nmiPending = s.nmiPending := rfl
@[simp] theorem setDraws_irqLine (v : Nat) : (s.setDraws v).irqLine = s.irqLine := rfl
@[simp] theorem setDraws_cpuMem (v : Nat) : (s.setDraws v).cpuMem = s.cpuMem := rfl
@[simp] theorem setDraws_ppuMem (v : Nat) : (s.setDraws v).ppuMem = s.ppuMem := rfl
@[simp] theorem setDraws_shim (v : Nat) : (s.setDraws v).shim = s.shim := rfl
@[simp] theorem setDraws_cart (v : Nat) : (s.setDraws v).cart = s.cart := rfl
@[simp] theorem setDraws_config (v : Nat) : (s.setDraws v).config = s.config := rfl
@[simp] theorem setDraws_draws (v : Nat) : (s.setDraws v).draws = v := rfl
@[simp] theorem setDraws_hostEvents (v : Nat) : (s.setDraws v).hostEvents = s.hostEvents := rfl

@[simp] theorem setHostEvents_a (v : List (List HostEvent)) : (s.setHostEvents v).a = s.a := rfl
@[simp] theorem setHostEvents_x (v : List (List HostEvent)) : (s.setHostEvents v).x = s.x := rfl
@[simp] theorem setHostEvents_y (v : List (List HostEvent)) : (s.setHostEvents v).y = s.y := rfl
@[simp] theorem setHostEvents_sp (v : List (List HostEvent)) : (s.setHostEvents v).sp = s.sp := rfl
@[simp] theorem setHostEvents_pc (v : List (List HostEvent)) : (s.setHostEvents v).pc = s.pc := rfl
@[simp] theorem setHostEvents_p (v : List (List HostEvent)) : (s.setHostEvents v).p = s.p := rfl
@[simp] theorem setHostEvents_run (v : List (List HostEvent)) : (s.setHostEvents v).run = s.run := rfl
@[simp] theorem setHostEvents_budget (v : List (List HostEvent)) : (s.setHostEvents v).budget = s.budget := rfl
@[simp] theorem setHostEvents_resetPending (v : List (List HostEvent)) : (s.setHostEvents v).resetPending = s.resetPending := rfl
@[simp] theorem setHostEvents_nmiPending (v : List (List HostEvent)) : (s.setHostEvents v).nmiPending = s.nmiPending := rfl
@[simp] theorem setHostEvents_irqLine (v : List (List HostEvent)) : (s.setHostEvents v).irqLine = s.irqLine := rfl
@[simp] theorem setHostEvents_cpuMem (v : List (List HostEvent)) : (s.setHostEvents v).cpuMem = s.cpuMem := rfl
@[simp] theorem setHostEvents_ppuMem (v : List (List HostEvent)) : (s.setHostEvents v).ppuMem = s.ppuMem := rfl
@[simp] theorem setHostEvents_shim (v : List (List HostEvent)) : (s.setHostEvents v).shim = s.shim := rfl
@[simp] theorem setHostEvents_cart (v : List (List HostEvent)) : (s.setHostEvents v).cart = s.cart := rfl
@[simp] theorem setHostEvents_config (v : List (List HostEvent)) : (s.setHostEvents v).config = s.config := rfl
@[simp] theorem setHostEvents_draws (v : List (List HostEvent)) : (s.setHostEvents v).draws = s.draws := rfl
@[simp] theorem setHostEvents_hostEvents (v : List (List HostEvent)) : (s.setHostEvents v).hostEvents = v := rfl

@[simp] theorem setA_setA (u v : Byte) : (s.setA u).setA v = s.setA v := rfl
@[simp] theorem setX_setX (u v : Byte) : (s.setX u).setX v = s.setX v := rfl
@[simp] theorem setY_setY (u v : Byte) : (s.setY u).setY v = s.setY v := rfl
@[simp] theorem setSp_setSp (u v : Byte) : (s.setSp u).setSp v = s.setSp v := rfl
@[simp] theorem setPc_setPc (u v : Addr) : (s.setPc u).setPc v = s.setPc v := rfl
@[simp] theorem setP_setP (u v : Status) : (s.setP u).setP v = s.setP v := rfl
@[simp] theorem setRun_setRun (u v : RunState) : (s.setRun u).setRun v = s.setRun v := rfl
@[simp] theorem setBudget_setBudget (u v : Nat) : (s.setBudget u).setBudget v = s.setBudget v := rfl
@[simp] theorem setResetPending_setResetPending (u v : Bool) : (s.setResetPending u).setResetPending v = s.setResetPending v := rfl
@[simp] theorem setNmiPending_setNmiPending (u v : Bool) : (s.setNmiPending u).setNmiPending v = s.setNmiPending v := rfl
@[simp] theorem setIrqLine_setIrqLine (u v : Bool) : (s.setIrqLine u).setIrqLine v = s.setIrqLine v := rfl
@[simp] theorem setCpuMem_setCpuMem (u v : Memory) : (s.setCpuMem u).setCpuMem v = s.setCpuMem v := rfl
@[simp] theorem setPpuMem_setPpuMem (u v : Memory) : (s.setPpuMem u).setPpuMem v = s.setPpuMem v := rfl
@[simp] theorem setShim_setShim (u v : Shim) : (s.setShim u).setShim v = s.setShim v := rfl
@[simp] theorem setCart_setCart (u v : Cartridge) : (s.setCart u).setCart v = s.setCart v := rfl
@[simp] theorem setDraws_setDraws (u v : Nat) : (s.setDraws u).setDraws v = s.setDraws v := rfl
@[simp] theorem setHostEvents_setHostEvents (u v : List (List HostEvent)) : (s.setHostEvents u).setHostEvents v = s.setHostEvents v := rfl

end Sys2Proof.Machine.State
end

