-- ==== Sys2Proof/Laws/Flags.lean ====
section
/-! SUPPORT. One lemma per field for each flag update (Machine/Flags.lean), and the status images bit by bit. -/

namespace Sys2Proof.Machine

namespace State

variable (s : State)

@[simp] theorem setNZ_a (v : Byte) : (s.setNZ v).a = s.a := rfl
@[simp] theorem setNZ_x (v : Byte) : (s.setNZ v).x = s.x := rfl
@[simp] theorem setNZ_y (v : Byte) : (s.setNZ v).y = s.y := rfl
@[simp] theorem setNZ_sp (v : Byte) : (s.setNZ v).sp = s.sp := rfl
@[simp] theorem setNZ_pc (v : Byte) : (s.setNZ v).pc = s.pc := rfl
@[simp] theorem setNZ_p (v : Byte) : (s.setNZ v).p = { s.p with z := v == 0, n := v.getLsbD 7 } := rfl
@[simp] theorem setNZ_run (v : Byte) : (s.setNZ v).run = s.run := rfl
@[simp] theorem setNZ_budget (v : Byte) : (s.setNZ v).budget = s.budget := rfl
@[simp] theorem setNZ_resetPending (v : Byte) : (s.setNZ v).resetPending = s.resetPending := rfl
@[simp] theorem setNZ_nmiPending (v : Byte) : (s.setNZ v).nmiPending = s.nmiPending := rfl
@[simp] theorem setNZ_irqLine (v : Byte) : (s.setNZ v).irqLine = s.irqLine := rfl
@[simp] theorem setNZ_cpuMem (v : Byte) : (s.setNZ v).cpuMem = s.cpuMem := rfl
@[simp] theorem setNZ_ppuMem (v : Byte) : (s.setNZ v).ppuMem = s.ppuMem := rfl
@[simp] theorem setNZ_shim (v : Byte) : (s.setNZ v).shim = s.shim := rfl
@[simp] theorem setNZ_cart (v : Byte) : (s.setNZ v).cart = s.cart := rfl
@[simp] theorem setNZ_config (v : Byte) : (s.setNZ v).config = s.config := rfl
@[simp] theorem setNZ_draws (v : Byte) : (s.setNZ v).draws = s.draws := rfl
@[simp] theorem setNZ_hostEvents (v : Byte) : (s.setNZ v).hostEvents = s.hostEvents := rfl

@[simp] theorem setC_a (v : Bool) : (s.setC v).a = s.a := rfl
@[simp] theorem setC_x (v : Bool) : (s.setC v).x = s.x := rfl
@[simp] theorem setC_y (v : Bool) : (s.setC v).y = s.y := rfl
@[simp] theorem setC_sp (v : Bool) : (s.setC v).sp = s.sp := rfl
@[simp] theorem setC_pc (v : Bool) : (s.setC v).pc = s.pc := rfl
@[simp] theorem setC_p (v : Bool) : (s.setC v).p = { s.p with c := v } := rfl
@[simp] theorem setC_run (v : Bool) : (s.setC v).run = s.run := rfl
@[simp] theorem setC_budget (v : Bool) : (s.setC v).budget = s.budget := rfl
@[simp] theorem setC_resetPending (v : Bool) : (s.setC v).resetPending = s.resetPending := rfl
@[simp] theorem setC_nmiPending (v : Bool) : (s.setC v).nmiPending = s.nmiPending := rfl
@[simp] theorem setC_irqLine (v : Bool) : (s.setC v).irqLine = s.irqLine := rfl
@[simp] theorem setC_cpuMem (v : Bool) : (s.setC v).cpuMem = s.cpuMem := rfl
@[simp] theorem setC_ppuMem (v : Bool) : (s.setC v).ppuMem = s.ppuMem := rfl
@[simp] theorem setC_shim (v : Bool) : (s.setC v).shim = s.shim := rfl
@[simp] theorem setC_cart (v : Bool) : (s.setC v).cart = s.cart := rfl
@[simp] theorem setC_config (v : Bool) : (s.setC v).config = s.config := rfl
@[simp] theorem setC_draws (v : Bool) : (s.setC v).draws = s.draws := rfl
@[simp] theorem setC_hostEvents (v : Bool) : (s.setC v).hostEvents = s.hostEvents := rfl

@[simp] theorem setI_a (v : Bool) : (s.setI v).a = s.a := rfl
@[simp] theorem setI_x (v : Bool) : (s.setI v).x = s.x := rfl
@[simp] theorem setI_y (v : Bool) : (s.setI v).y = s.y := rfl
@[simp] theorem setI_sp (v : Bool) : (s.setI v).sp = s.sp := rfl
@[simp] theorem setI_pc (v : Bool) : (s.setI v).pc = s.pc := rfl
@[simp] theorem setI_p (v : Bool) : (s.setI v).p = { s.p with i := v } := rfl
@[simp] theorem setI_run (v : Bool) : (s.setI v).run = s.run := rfl
@[simp] theorem setI_budget (v : Bool) : (s.setI v).budget = s.budget := rfl
@[simp] theorem setI_resetPending (v : Bool) : (s.setI v).resetPending = s.resetPending := rfl
@[simp] theorem setI_nmiPending (v : Bool) : (s.setI v).nmiPending = s.nmiPending := rfl
@[simp] theorem setI_irqLine (v : Bool) : (s.setI v).irqLine = s.irqLine := rfl
@[simp] theorem setI_cpuMem (v : Bool) : (s.setI v).cpuMem = s.cpuMem := rfl
@[simp] theorem setI_ppuMem (v : Bool) : (s.setI v).ppuMem = s.ppuMem := rfl
@[simp] theorem setI_shim (v : Bool) : (s.setI v).shim = s.shim := rfl
@[simp] theorem setI_cart (v : Bool) : (s.setI v).cart = s.cart := rfl
@[simp] theorem setI_config (v : Bool) : (s.setI v).config = s.config := rfl
@[simp] theorem setI_draws (v : Bool) : (s.setI v).draws = s.draws := rfl
@[simp] theorem setI_hostEvents (v : Bool) : (s.setI v).hostEvents = s.hostEvents := rfl

@[simp] theorem setD_a (v : Bool) : (s.setD v).a = s.a := rfl
@[simp] theorem setD_x (v : Bool) : (s.setD v).x = s.x := rfl
@[simp] theorem setD_y (v : Bool) : (s.setD v).y = s.y := rfl
@[simp] theorem setD_sp (v : Bool) : (s.setD v).sp = s.sp := rfl
@[simp] theorem setD_pc (v : Bool) : (s.setD v).pc = s.pc := rfl
@[simp] theorem setD_p (v : Bool) : (s.setD v).p = { s.p with d := v } := rfl
@[simp] theorem setD_run (v : Bool) : (s.setD v).run = s.run := rfl
@[simp] theorem setD_budget (v : Bool) : (s.setD v).budget = s.budget := rfl
@[simp] theorem setD_resetPending (v : Bool) : (s.setD v).resetPending = s.resetPending := rfl
@[simp] theorem setD_nmiPending (v : Bool) : (s.setD v).nmiPending = s.nmiPending := rfl
@[simp] theorem setD_irqLine (v : Bool) : (s.setD v).irqLine = s.irqLine := rfl
@[simp] theorem setD_cpuMem (v : Bool) : (s.setD v).cpuMem = s.cpuMem := rfl
@[simp] theorem setD_ppuMem (v : Bool) : (s.setD v).ppuMem = s.ppuMem := rfl
@[simp] theorem setD_shim (v : Bool) : (s.setD v).shim = s.shim := rfl
@[simp] theorem setD_cart (v : Bool) : (s.setD v).cart = s.cart := rfl
@[simp] theorem setD_config (v : Bool) : (s.setD v).config = s.config := rfl
@[simp] theorem setD_draws (v : Bool) : (s.setD v).draws = s.draws := rfl
@[simp] theorem setD_hostEvents (v : Bool) : (s.setD v).hostEvents = s.hostEvents := rfl

@[simp] theorem setV_a (v : Bool) : (s.setV v).a = s.a := rfl
@[simp] theorem setV_x (v : Bool) : (s.setV v).x = s.x := rfl
@[simp] theorem setV_y (v : Bool) : (s.setV v).y = s.y := rfl
@[simp] theorem setV_sp (v : Bool) : (s.setV v).sp = s.sp := rfl
@[simp] theorem setV_pc (v : Bool) : (s.setV v).pc = s.pc := rfl
@[simp] theorem setV_p (v : Bool) : (s.setV v).p = { s.p with v := v } := rfl
@[simp] theorem setV_run (v : Bool) : (s.setV v).run = s.run := rfl
@[simp] theorem setV_budget (v : Bool) : (s.setV v).budget = s.budget := rfl
@[simp] theorem setV_resetPending (v : Bool) : (s.setV v).resetPending = s.resetPending := rfl
@[simp] theorem setV_nmiPending (v : Bool) : (s.setV v).nmiPending = s.nmiPending := rfl
@[simp] theorem setV_irqLine (v : Bool) : (s.setV v).irqLine = s.irqLine := rfl
@[simp] theorem setV_cpuMem (v : Bool) : (s.setV v).cpuMem = s.cpuMem := rfl
@[simp] theorem setV_ppuMem (v : Bool) : (s.setV v).ppuMem = s.ppuMem := rfl
@[simp] theorem setV_shim (v : Bool) : (s.setV v).shim = s.shim := rfl
@[simp] theorem setV_cart (v : Bool) : (s.setV v).cart = s.cart := rfl
@[simp] theorem setV_config (v : Bool) : (s.setV v).config = s.config := rfl
@[simp] theorem setV_draws (v : Bool) : (s.setV v).draws = s.draws := rfl
@[simp] theorem setV_hostEvents (v : Bool) : (s.setV v).hostEvents = s.hostEvents := rfl

@[simp] theorem setSum_a (r : AluResult) : (s.setSum r).a = r.value := rfl
@[simp] theorem setSum_x (r : AluResult) : (s.setSum r).x = s.x := rfl
@[simp] theorem setSum_y (r : AluResult) : (s.setSum r).y = s.y := rfl
@[simp] theorem setSum_sp (r : AluResult) : (s.setSum r).sp = s.sp := rfl
@[simp] theorem setSum_pc (r : AluResult) : (s.setSum r).pc = s.pc := rfl
@[simp] theorem setSum_p (r : AluResult) : (s.setSum r).p = { s.p with c := r.carry, v := r.overflow, z := r.value == 0, n := r.value.getLsbD 7 } := rfl
@[simp] theorem setSum_run (r : AluResult) : (s.setSum r).run = s.run := rfl
@[simp] theorem setSum_budget (r : AluResult) : (s.setSum r).budget = s.budget := rfl
@[simp] theorem setSum_resetPending (r : AluResult) : (s.setSum r).resetPending = s.resetPending := rfl
@[simp] theorem setSum_nmiPending (r : AluResult) : (s.setSum r).nmiPending = s.nmiPending := rfl
@[simp] theorem setSum_irqLine (r : AluResult) : (s.setSum r).irqLine = s.irqLine := rfl
@[simp] theorem setSum_cpuMem (r : AluResult) : (s.setSum r).cpuMem = s.cpuMem := rfl
@[simp] theorem setSum_ppuMem (r : AluResult) : (s.setSum r).ppuMem = s.ppuMem := rfl
@[simp] theorem setSum_shim (r : AluResult) : (s.setSum r).shim = s.shim := rfl
@[simp] theorem setSum_cart (r : AluResult) : (s.setSum r).cart = s.cart := rfl
@[simp] theorem setSum_config (r : AluResult) : (s.setSum r).config = s.config := rfl
@[simp] theorem setSum_draws (r : AluResult) : (s.setSum r).draws = s.draws := rfl
@[simp] theorem setSum_hostEvents (r : AluResult) : (s.setSum r).hostEvents = s.hostEvents := rfl

@[simp] theorem compare_a (reg m : Byte) : (s.compare reg m).a = s.a := rfl
@[simp] theorem compare_x (reg m : Byte) : (s.compare reg m).x = s.x := rfl
@[simp] theorem compare_y (reg m : Byte) : (s.compare reg m).y = s.y := rfl
@[simp] theorem compare_sp (reg m : Byte) : (s.compare reg m).sp = s.sp := rfl
@[simp] theorem compare_pc (reg m : Byte) : (s.compare reg m).pc = s.pc := rfl
@[simp] theorem compare_run (reg m : Byte) : (s.compare reg m).run = s.run := rfl
@[simp] theorem compare_budget (reg m : Byte) : (s.compare reg m).budget = s.budget := rfl
@[simp] theorem compare_resetPending (reg m : Byte) : (s.compare reg m).resetPending = s.resetPending := rfl
@[simp] theorem compare_nmiPending (reg m : Byte) : (s.compare reg m).nmiPending = s.nmiPending := rfl
@[simp] theorem compare_irqLine (reg m : Byte) : (s.compare reg m).irqLine = s.irqLine := rfl
@[simp] theorem compare_cpuMem (reg m : Byte) : (s.compare reg m).cpuMem = s.cpuMem := rfl
@[simp] theorem compare_ppuMem (reg m : Byte) : (s.compare reg m).ppuMem = s.ppuMem := rfl
@[simp] theorem compare_shim (reg m : Byte) : (s.compare reg m).shim = s.shim := rfl
@[simp] theorem compare_cart (reg m : Byte) : (s.compare reg m).cart = s.cart := rfl
@[simp] theorem compare_config (reg m : Byte) : (s.compare reg m).config = s.config := rfl
@[simp] theorem compare_draws (reg m : Byte) : (s.compare reg m).draws = s.draws := rfl
@[simp] theorem compare_hostEvents (reg m : Byte) : (s.compare reg m).hostEvents = s.hostEvents := rfl

@[simp] theorem testBits_a (m : Byte) : (s.testBits m).a = s.a := rfl
@[simp] theorem testBits_x (m : Byte) : (s.testBits m).x = s.x := rfl
@[simp] theorem testBits_y (m : Byte) : (s.testBits m).y = s.y := rfl
@[simp] theorem testBits_sp (m : Byte) : (s.testBits m).sp = s.sp := rfl
@[simp] theorem testBits_pc (m : Byte) : (s.testBits m).pc = s.pc := rfl
@[simp] theorem testBits_p (m : Byte) : (s.testBits m).p = { s.p with z := (s.a &&& m) == 0, n := m.getLsbD 7, v := m.getLsbD 6 } := rfl
@[simp] theorem testBits_run (m : Byte) : (s.testBits m).run = s.run := rfl
@[simp] theorem testBits_budget (m : Byte) : (s.testBits m).budget = s.budget := rfl
@[simp] theorem testBits_resetPending (m : Byte) : (s.testBits m).resetPending = s.resetPending := rfl
@[simp] theorem testBits_nmiPending (m : Byte) : (s.testBits m).nmiPending = s.nmiPending := rfl
@[simp] theorem testBits_irqLine (m : Byte) : (s.testBits m).irqLine = s.irqLine := rfl
@[simp] theorem testBits_cpuMem (m : Byte) : (s.testBits m).cpuMem = s.cpuMem := rfl
@[simp] theorem testBits_ppuMem (m : Byte) : (s.testBits m).ppuMem = s.ppuMem := rfl
@[simp] theorem testBits_shim (m : Byte) : (s.testBits m).shim = s.shim := rfl
@[simp] theorem testBits_cart (m : Byte) : (s.testBits m).cart = s.cart := rfl
@[simp] theorem testBits_config (m : Byte) : (s.testBits m).config = s.config := rfl
@[simp] theorem testBits_draws (m : Byte) : (s.testBits m).draws = s.draws := rfl
@[simp] theorem testBits_hostEvents (m : Byte) : (s.testBits m).hostEvents = s.hostEvents := rfl

end State

end Sys2Proof.Machine
end

