-- ==== Sys2Proof/Laws/Memory.lean ====
section
/-! SUPPORT. The laws of a byte array: a read after a write, every other address left alone, the canonical form kept. -/

namespace Sys2Proof.Machine

namespace Memory

@[simp] theorem read_nil (a : Nat) : Memory.read [] a = Memory.unwritten := rfl

/-- A write leaves every other address alone, in any list at all. -/
theorem read_write_other {a b : Nat} (h : b ≠ a) (v : Byte) (m : Memory) : (m.write a v).read b = m.read b := by
  induction m with
  | nil => simp only [Memory.write]; split <;> simp [Memory.read, h]
  | cons c m ih =>
    obtain ⟨k, u⟩ := c
    simp only [Memory.write]
    split
    · split <;> simp [Memory.read, h]
    · split
      · subst k; split <;> simp [Memory.read, h]
      · simp [Memory.read, ih]

/-- Below its first entry, a canonical list reads as unwritten. -/
theorem read_below {size lo a : Nat} {m : Memory} (hm : Memory.wfFrom size lo m = true) (h : a < lo) :
    m.read a = Memory.unwritten := by
  induction m generalizing lo with
  | nil => rfl
  | cons c m ih =>
    obtain ⟨k, u⟩ := c
    simp only [Memory.wfFrom, Bool.and_eq_true, decide_eq_true_eq] at hm
    have hk : a ≠ k := by omega
    simp only [Memory.read, hk, if_false]
    exact ih hm.2 (by omega)

/-- A read after a write to the same address of a canonical list gives the byte written. -/
theorem read_write_same_from {size lo a : Nat} {v : Byte} {m : Memory} (hm : Memory.wfFrom size lo m = true) :
    (m.write a v).read a = v := by
  induction m generalizing lo with
  | nil => simp only [Memory.write]; split <;> simp [Memory.read, *]
  | cons c m ih =>
    obtain ⟨k, u⟩ := c
    have hm' := hm
    simp only [Memory.wfFrom, Bool.and_eq_true, decide_eq_true_eq] at hm
    simp only [Memory.write]
    split
    · split
      · have hk : a ≠ k := by omega
        simp only [Memory.read, hk, if_false]
        rw [read_below hm.2 (by omega)]; simp_all
      · simp [Memory.read]
    · split
      · split
        · rw [read_below hm.2 (by omega)]; simp_all
        · simp [Memory.read]
      · rename_i h
        simp only [Memory.read, h, if_false]
        exact ih hm.2

theorem read_write_same {size a : Nat} {v : Byte} {m : Memory} (hm : m.wf size = true) : (m.write a v).read a = v :=
  read_write_same_from hm

/-- Storing a byte that is not the unwritten value is read back from any list at all. -/
theorem read_write_same_of_ne {a : Nat} {v : Byte} (hv : v ≠ Memory.unwritten) (m : Memory) :
    (m.write a v).read a = v := by
  induction m with
  | nil => simp [Memory.write, hv, Memory.read]
  | cons c m ih =>
    obtain ⟨k, u⟩ := c
    simp only [Memory.write, hv, if_false]
    split
    · simp [Memory.read]
    · split
      · simp [Memory.read]
      · rename_i h
        simp [Memory.read, h, ih]

theorem wfFrom_mono {size lo lo' : Nat} {m : Memory} (hm : Memory.wfFrom size lo m = true) (h : lo' ≤ lo) :
    Memory.wfFrom size lo' m = true := by
  cases m with
  | nil => rfl
  | cons c m =>
    obtain ⟨k, u⟩ := c
    simp only [Memory.wfFrom, Bool.and_eq_true, decide_eq_true_eq] at hm ⊢
    exact ⟨⟨⟨by omega, hm.1.1.2⟩, hm.1.2⟩, hm.2⟩

/-- A write keeps the canonical form. -/
theorem write_wfFrom {size lo a : Nat} {v : Byte} {m : Memory} (hm : Memory.wfFrom size lo m = true) (hlo : lo ≤ a)
    (ha : a < size) : Memory.wfFrom size lo (m.write a v) = true := by
  induction m generalizing lo with
  | nil =>
    simp only [Memory.write]
    split <;> simp_all [Memory.wfFrom]
  | cons c m ih =>
    obtain ⟨k, u⟩ := c
    have hm' := hm
    simp only [Memory.wfFrom, Bool.and_eq_true, decide_eq_true_eq] at hm
    simp only [Memory.write]
    split
    · split
      · exact hm'
      · simp only [Memory.wfFrom, Bool.and_eq_true, decide_eq_true_eq]
        exact ⟨⟨⟨hlo, ha⟩, ‹_›⟩, ⟨⟨by omega, hm.1.1.2⟩, hm.1.2⟩, hm.2⟩
    · split
      · split
        · exact wfFrom_mono hm.2 (by omega)
        · simp only [Memory.wfFrom, Bool.and_eq_true, decide_eq_true_eq]
          refine ⟨⟨⟨hlo, ha⟩, ‹_›⟩, wfFrom_mono hm.2 (by omega)⟩
      · simp only [Memory.wfFrom, Bool.and_eq_true, decide_eq_true_eq]
        exact ⟨hm.1, ih hm.2 (by omega)⟩

theorem write_wf {size a : Nat} {v : Byte} {m : Memory} (hm : m.wf size = true) (ha : a < size) :
    (m.write a v).wf size = true := write_wfFrom hm (Nat.zero_le a) ha

/-- A copy that ends inside the space keeps the canonical form (R58, R77). -/
theorem copy_wf {size start : Nat} {bytes : List Byte} {m : Memory} (hm : m.wf size = true)
    (h : start + bytes.length ≤ size) : (Memory.copy bytes start m).wf size = true := by
  induction bytes generalizing start m with
  | nil => exact hm
  | cons v vs ih =>
    simp only [List.length_cons] at h
    exact ih (write_wf hm (by omega)) (by omega)

/-- A copy leaves the addresses outside its range alone. -/
theorem read_copy_outside {start a : Nat} {bytes : List Byte} (m : Memory)
    (h : a < start ∨ start + bytes.length ≤ a) : (Memory.copy bytes start m).read a = m.read a := by
  induction bytes generalizing start m with
  | nil => rfl
  | cons v vs ih =>
    simp only [List.length_cons] at h
    rw [Memory.copy, ih _ (by omega), read_write_other (by omega)]

/-- Inside its range, a copy reads as the bytes copied. -/
theorem read_copy_inside {size start k : Nat} {bytes : List Byte} {m : Memory} (hm : m.wf size = true)
    (h : start + bytes.length ≤ size) (hk : k < bytes.length) :
    (Memory.copy bytes start m).read (start + k) = bytes[k] := by
  induction bytes generalizing start k m with
  | nil => simp at hk
  | cons v vs ih =>
    simp only [List.length_cons] at h hk
    rw [Memory.copy]
    cases k with
    | zero => rw [read_copy_outside _ (by omega)]; simpa using read_write_same hm
    | succ k =>
      have := ih (start := start + 1) (k := k) (write_wf hm (a := start) (v := v) (by omega)) (by omega) (by omega)
      simpa [Nat.add_assoc, Nat.add_comm 1 k] using this

end Memory

end Sys2Proof.Machine
end

