-- ==== Sys2Proof/Laws/Ops.lean ====
section
/-! SUPPORT. What one bus access can do, said once: a read may change the shim and the draw counter and nothing else; a
write may change the two memories, the shim and the NMI latch and nothing else. Then the same for the pointer reads, the
stack and the exceptions. -/

namespace Sys2Proof.Machine

/-! ### Which addresses are in the window -/

theorem shimReg_eq_none {a : Addr} (h : a.toNat < 0x2000 ∨ 0x2007 < a.toNat) : shimReg a = none := by
  unfold shimReg
  split <;> first | omega | rfl

theorem shimReg_zext (b : Byte) : shimReg (zext b) = none := by
  refine shimReg_eq_none (Or.inl ?_)
  have hb := b.isLt
  simp only [zext, BitVec.toNat_setWidth]
  omega

theorem toNat_word (lo hi : Byte) : (word lo hi).toNat = hi.toNat * 256 + lo.toNat := by
  have hlo := lo.isLt
  simp only [word, BitVec.toNat_append]
  rw [← Nat.shiftLeft_add_eq_or_of_lt (by omega), Nat.shiftLeft_eq]

theorem toNat_stackAddr (sp : Byte) : (stackAddr sp).toNat = 0x100 + sp.toNat := by
  simp [stackAddr, toNat_word]

@[simp] theorem shimReg_stackAddr (sp : Byte) : shimReg (stackAddr sp) = none := by
  refine shimReg_eq_none (Or.inl ?_)
  have h := sp.isLt
  rw [toNat_stackAddr]
  omega

/-! ### A bus read -/

theorem shimRead_state (r : ShimReg) (s : State) :
    ∃ sh d, (shimRead r s).2 = { s with shim := sh, draws := d } := by
  cases r
  case data =>
    simp only [shimRead, readVramData]
    split
    · split <;> exact ⟨_, _, rfl⟩
    · exact ⟨_, _, rfl⟩
  all_goals exact ⟨_, _, rfl⟩

/-- A read changes at most the shim and the draw counter (R63). -/
theorem memRead_state (a : Addr) (s : State) : ∃ sh d, (memRead a s).2 = { s with shim := sh, draws := d } := by
  unfold memRead
  split
  · exact shimRead_state _ _
  · exact ⟨s.shim, s.draws, rfl⟩

/-- A read outside the window is plain storage and changes nothing (R55, R63). -/
theorem memRead_plain {a : Addr} (h : shimReg a = none) (s : State) : memRead a s = (s.cpuMem.read a.toNat, s) := by
  simp [memRead, h]

@[simp] theorem memRead_a (a : Addr) (s : State) : (memRead a s).2.a = s.a := by
  obtain ⟨_, _, h⟩ := memRead_state a s; rw [h]
@[simp] theorem memRead_x (a : Addr) (s : State) : (memRead a s).2.x = s.x := by
  obtain ⟨_, _, h⟩ := memRead_state a s; rw [h]
@[simp] theorem memRead_y (a : Addr) (s : State) : (memRead a s).2.y = s.y := by
  obtain ⟨_, _, h⟩ := memRead_state a s; rw [h]
@[simp] theorem memRead_sp (a : Addr) (s : State) : (memRead a s).2.sp = s.sp := by
  obtain ⟨_, _, h⟩ := memRead_state a s; rw [h]
@[simp] theorem memRead_pc (a : Addr) (s : State) : (memRead a s).2.pc = s.pc := by
  obtain ⟨_, _, h⟩ := memRead_state a s; rw [h]
@[simp] theorem memRead_p (a : Addr) (s : State) : (memRead a s).2.p = s.p := by
  obtain ⟨_, _, h⟩ := memRead_state a s; rw [h]
@[simp] theorem memRead_run (a : Addr) (s : State) : (memRead a s).2.run = s.run := by
  obtain ⟨_, _, h⟩ := memRead_state a s; rw [h]
@[simp] theorem memRead_budget (a : Addr) (s : State) : (memRead a s).2.budget = s.budget := by
  obtain ⟨_, _, h⟩ := memRead_state a s; rw [h]
@[simp] theorem memRead_resetPending (a : Addr) (s : State) : (memRead a s).2.resetPending = s.resetPending := by
  obtain ⟨_, _, h⟩ := memRead_state a s; rw [h]
@[simp] theorem memRead_nmiPending (a : Addr) (s : State) : (memRead a s).2.nmiPending = s.nmiPending := by
  obtain ⟨_, _, h⟩ := memRead_state a s; rw [h]
@[simp] theorem memRead_irqLine (a : Addr) (s : State) : (memRead a s).2.irqLine = s.irqLine := by
  obtain ⟨_, _, h⟩ := memRead_state a s; rw [h]
@[simp] theorem memRead_cpuMem (a : Addr) (s : State) : (memRead a s).2.cpuMem = s.cpuMem := by
  obtain ⟨_, _, h⟩ := memRead_state a s; rw [h]
@[simp] theorem memRead_ppuMem (a : Addr) (s : State) : (memRead a s).2.ppuMem = s.ppuMem := by
  obtain ⟨_, _, h⟩ := memRead_state a s; rw [h]
@[simp] theorem memRead_cart (a : Addr) (s : State) : (memRead a s).2.cart = s.cart := by
  obtain ⟨_, _, h⟩ := memRead_state a s; rw [h]
@[simp] theorem memRead_config (a : Addr) (s : State) : (memRead a s).2.config = s.config := by
  obtain ⟨_, _, h⟩ := memRead_state a s; rw [h]
@[simp] theorem memRead_hostEvents (a : Addr) (s : State) : (memRead a s).2.hostEvents = s.hostEvents := by
  obtain ⟨_, _, h⟩ := memRead_state a s; rw [h]

/-- A read does not look at the PC, nor touch it. -/
theorem memRead_setPc (a v : Addr) (s : State) : memRead a (s.setPc v) = ((memRead a s).1, (memRead a s).2.setPc v) := by
  unfold memRead
  split
  · rename_i r _
    cases r
    case data =>
      by_cases hb : s.config.ppuReadBuffered = true <;> by_cases hp : s.shim.vramAddr.toNat < 0x3F00 <;>
        simp only [shimRead, readVramData, State.setPc_config, State.setPc_shim, hb, hp, if_true] <;> rfl
    all_goals rfl
  · rfl

/-- A read does not look at the status register, nor touch it. -/
theorem memRead_setP (a : Addr) (v : Status) (s : State) :
    memRead a (s.setP v) = ((memRead a s).1, (memRead a s).2.setP v) := by
  unfold memRead
  split
  · rename_i r _
    cases r
    case data =>
      by_cases hb : s.config.ppuReadBuffered = true <;> by_cases hp : s.shim.vramAddr.toNat < 0x3F00 <;>
        simp only [shimRead, readVramData, State.setP_config, State.setP_shim, hb, hp, if_true] <;> rfl
    all_goals rfl
  · rfl

/-! ### A bus write -/

theorem ppuWrite_state (a : PpuAddr) (v : Byte) (s : State) : ∃ m, ppuWrite a v s = { s with ppuMem := m } := by
  unfold ppuWrite
  split
  · exact ⟨s.ppuMem, rfl⟩
  · exact ⟨_, rfl⟩

theorem shimWrite_state (r : ShimReg) (v : Byte) (s : State) :
    ∃ m sh n, shimWrite r v s = { s with ppuMem := m, shim := sh, nmiPending := n } := by
  cases r
  case addr =>
    simp only [shimWrite, writeAddr]
    split <;> exact ⟨_, _, _, rfl⟩
  case data =>
    obtain ⟨m, h⟩ := ppuWrite_state s.shim.vramAddr v s
    simp only [shimWrite, h]
    exact ⟨_, _, _, rfl⟩
  all_goals exact ⟨_, _, _, rfl⟩

/-- A write changes at most the two memories, the shim and the NMI latch (R63). -/
theorem memWrite_state (a : Addr) (v : Byte) (s : State) :
    ∃ c m sh n, memWrite a v s = { s with cpuMem := c, ppuMem := m, shim := sh, nmiPending := n } := by
  unfold memWrite
  split
  · obtain ⟨m, sh, n, h⟩ := shimWrite_state _ v s
    exact ⟨s.cpuMem, m, sh, n, h⟩
  · split
    · exact ⟨s.cpuMem, s.ppuMem, s.shim, s.nmiPending, rfl⟩
    · exact ⟨_, s.ppuMem, s.shim, s.nmiPending, rfl⟩

/-- A write outside the window to an address below 0x8000, or to any when `P_ROM_WRITABLE`, is stored (R56). -/
theorem memWrite_plain {a : Addr} (h : shimReg a = none) (v : Byte) {s : State}
    (hw : a.toNat < 0x8000 ∨ s.config.romWritable = true) :
    memWrite a v s = s.setCpuMem (s.cpuMem.write a.toNat v) := by
  simp only [memWrite, h]
  split
  · rename_i hc
    simp only [Bool.and_eq_true, decide_eq_true_eq, Bool.not_eq_true'] at hc
    rcases hw with hw | hw
    · omega
    · simp [hw] at hc
  · rfl

@[simp] theorem memWrite_a (a : Addr) (v : Byte) (s : State) : (memWrite a v s).a = s.a := by
  obtain ⟨_, _, _, _, h⟩ := memWrite_state a v s; rw [h]
@[simp] theorem memWrite_x (a : Addr) (v : Byte) (s : State) : (memWrite a v s).x = s.x := by
  obtain ⟨_, _, _, _, h⟩ := memWrite_state a v s; rw [h]
@[simp] theorem memWrite_y (a : Addr) (v : Byte) (s : State) : (memWrite a v s).y = s.y := by
  obtain ⟨_, _, _, _, h⟩ := memWrite_state a v s; rw [h]
@[simp] theorem memWrite_sp (a : Addr) (v : Byte) (s : State) : (memWrite a v s).sp = s.sp := by
  obtain ⟨_, _, _, _, h⟩ := memWrite_state a v s; rw [h]
@[simp] theorem memWrite_pc (a : Addr) (v : Byte) (s : State) : (memWrite a v s).pc = s.pc := by
  obtain ⟨_, _, _, _, h⟩ := memWrite_state a v s; rw [h]
@[simp] theorem memWrite_p (a : Addr) (v : Byte) (s : State) : (memWrite a v s).p = s.p := by
  obtain ⟨_, _, _, _, h⟩ := memWrite_state a v s; rw [h]
@[simp] theorem memWrite_run (a : Addr) (v : Byte) (s : State) : (memWrite a v s).run = s.run := by
  obtain ⟨_, _, _, _, h⟩ := memWrite_state a v s; rw [h]
@[simp] theorem memWrite_budget (a : Addr) (v : Byte) (s : State) : (memWrite a v s).budget = s.budget := by
  obtain ⟨_, _, _, _, h⟩ := memWrite_state a v s; rw [h]
@[simp] theorem memWrite_resetPending (a : Addr) (v : Byte) (s : State) : (memWrite a v s).resetPending = s.resetPending := by
  obtain ⟨_, _, _, _, h⟩ := memWrite_state a v s; rw [h]
@[simp] theorem memWrite_irqLine (a : Addr) (v : Byte) (s : State) : (memWrite a v s).irqLine = s.irqLine := by
  obtain ⟨_, _, _, _, h⟩ := memWrite_state a v s; rw [h]
@[simp] theorem memWrite_cart (a : Addr) (v : Byte) (s : State) : (memWrite a v s).cart = s.cart := by
  obtain ⟨_, _, _, _, h⟩ := memWrite_state a v s; rw [h]
@[simp] theorem memWrite_config (a : Addr) (v : Byte) (s : State) : (memWrite a v s).config = s.config := by
  obtain ⟨_, _, _, _, h⟩ := memWrite_state a v s; rw [h]
@[simp] theorem memWrite_draws (a : Addr) (v : Byte) (s : State) : (memWrite a v s).draws = s.draws := by
  obtain ⟨_, _, _, _, h⟩ := memWrite_state a v s; rw [h]
@[simp] theorem memWrite_hostEvents (a : Addr) (v : Byte) (s : State) : (memWrite a v s).hostEvents = s.hostEvents := by
  obtain ⟨_, _, _, _, h⟩ := memWrite_state a v s; rw [h]

/-- A write leaves every byte of `cpu_mem` but the one at its address. -/
theorem memWrite_read_other {a : Addr} (v : Byte) (s : State) {b : Nat} (h : b ≠ a.toNat) :
    (memWrite a v s).cpuMem.read b = s.cpuMem.read b := by
  unfold memWrite
  split
  · obtain ⟨_, _, _, h'⟩ := shimWrite_state _ v s
    rw [h']
  · split
    · rfl
    · simp [Memory.read_write_other h]

theorem ppuWrite_setPc (a : PpuAddr) (pc : Addr) (v : Byte) (s : State) :
    ppuWrite a v (s.setPc pc) = (ppuWrite a v s).setPc pc := by
  simp only [ppuWrite, apply_ite (State.setPc pc)]
  rfl

theorem ppuWrite_setP (a : PpuAddr) (v : Byte) (p : Status) (s : State) :
    ppuWrite a v (s.setP p) = (ppuWrite a v s).setP p := by
  simp only [ppuWrite, apply_ite (State.setP p)]
  rfl

theorem memWrite_setPc (a pc : Addr) (v : Byte) (s : State) :
    memWrite a v (s.setPc pc) = (memWrite a v s).setPc pc := by
  unfold memWrite
  split
  · rename_i r _
    cases r
    case addr => simp only [shimWrite, writeAddr, State.setPc_shim, apply_ite (State.setPc pc)]; rfl
    case data =>
      simp only [shimWrite, State.setPc_shim, ppuWrite_setPc]
      rfl
    all_goals rfl
  · simp only [State.setPc_config, apply_ite (State.setPc pc)]
    rfl

theorem memWrite_setP (a : Addr) (v : Byte) (p : Status) (s : State) :
    memWrite a v (s.setP p) = (memWrite a v s).setP p := by
  unfold memWrite
  split
  · rename_i r _
    cases r
    case addr => simp only [shimWrite, writeAddr, State.setP_shim, apply_ite (State.setP p)]; rfl
    case data =>
      simp only [shimWrite, State.setP_shim, ppuWrite_setP]
      rfl
    all_goals rfl
  · simp only [State.setP_config, apply_ite (State.setP p)]
    rfl

/-- A bus write keeps the canonical form of `cpu_mem`. -/
theorem memWrite_cpuMem_wf {a : Addr} {v : Byte} {s : State} (h : s.cpuMem.wf cpuMemSize = true) :
    (memWrite a v s).cpuMem.wf cpuMemSize = true := by
  unfold memWrite
  split
  · obtain ⟨_, _, _, h'⟩ := shimWrite_state _ v s
    rw [h']; exact h
  · split
    · exact h
    · exact Memory.write_wf h a.isLt

/-- A bus write keeps the canonical form of `ppu_mem`. -/
theorem memWrite_ppuMem_wf {a : Addr} {v : Byte} {s : State} (h : s.ppuMem.wf ppuMemSize = true) :
    (memWrite a v s).ppuMem.wf ppuMemSize = true := by
  unfold memWrite
  split
  · rename_i r _
    cases r
    case addr => simp only [shimWrite, writeAddr]; split <;> exact h
    case data =>
      simp only [shimWrite, ppuWrite]
      split
      · exact h
      · exact Memory.write_wf h s.shim.vramAddr.isLt
    all_goals exact h
  · split <;> exact h

/-! ### Pointer reads -/

theorem readPair_state (al ah : Addr) (s : State) : ∃ sh d, (readPair al ah s).2 = { s with shim := sh, draws := d } := by
  obtain ⟨sh, d, h⟩ := memRead_state al s
  obtain ⟨sh', d', h'⟩ := memRead_state ah (memRead al s).2
  refine ⟨sh', d', ?_⟩
  simp only [readPair]
  rw [h', h]

/-- Outside the window a pointer read is two bytes of storage. -/
theorem readPair_plain {al ah : Addr} (hl : shimReg al = none) (hh : shimReg ah = none) (s : State) :
    readPair al ah s = (word (s.cpuMem.read al.toNat) (s.cpuMem.read ah.toNat), s) := by
  simp [readPair, memRead_plain hl, memRead_plain hh]

theorem readPair_setP (al ah : Addr) (v : Status) (s : State) :
    readPair al ah (s.setP v) = ((readPair al ah s).1, (readPair al ah s).2.setP v) := by
  simp [readPair, memRead_setP]

theorem readPair_setPc (al ah v : Addr) (s : State) :
    readPair al ah (s.setPc v) = ((readPair al ah s).1, (readPair al ah s).2.setPc v) := by
  simp [readPair, memRead_setPc]

@[simp] theorem readPair_a (al ah : Addr) (s : State) : (readPair al ah s).2.a = s.a := by simp [readPair]
@[simp] theorem readPair_x (al ah : Addr) (s : State) : (readPair al ah s).2.x = s.x := by simp [readPair]
@[simp] theorem readPair_y (al ah : Addr) (s : State) : (readPair al ah s).2.y = s.y := by simp [readPair]
@[simp] theorem readPair_sp (al ah : Addr) (s : State) : (readPair al ah s).2.sp = s.sp := by simp [readPair]
@[simp] theorem readPair_pc (al ah : Addr) (s : State) : (readPair al ah s).2.pc = s.pc := by simp [readPair]
@[simp] theorem readPair_p (al ah : Addr) (s : State) : (readPair al ah s).2.p = s.p := by simp [readPair]
@[simp] theorem readPair_run (al ah : Addr) (s : State) : (readPair al ah s).2.run = s.run := by simp [readPair]
@[simp] theorem readPair_budget (al ah : Addr) (s : State) : (readPair al ah s).2.budget = s.budget := by simp [readPair]
@[simp] theorem readPair_resetPending (al ah : Addr) (s : State) : (readPair al ah s).2.resetPending = s.resetPending := by simp [readPair]
@[simp] theorem readPair_nmiPending (al ah : Addr) (s : State) : (readPair al ah s).2.nmiPending = s.nmiPending := by simp [readPair]
@[simp] theorem readPair_irqLine (al ah : Addr) (s : State) : (readPair al ah s).2.irqLine = s.irqLine := by simp [readPair]
@[simp] theorem readPair_cpuMem (al ah : Addr) (s : State) : (readPair al ah s).2.cpuMem = s.cpuMem := by simp [readPair]
@[simp] theorem readPair_ppuMem (al ah : Addr) (s : State) : (readPair al ah s).2.ppuMem = s.ppuMem := by simp [readPair]
@[simp] theorem readPair_cart (al ah : Addr) (s : State) : (readPair al ah s).2.cart = s.cart := by simp [readPair]
@[simp] theorem readPair_config (al ah : Addr) (s : State) : (readPair al ah s).2.config = s.config := by simp [readPair]
@[simp] theorem readPair_hostEvents (al ah : Addr) (s : State) : (readPair al ah s).2.hostEvents = s.hostEvents := by simp [readPair]

@[simp] theorem read16_a (a : Addr) (s : State) : (read16 a s).2.a = s.a := by simp [read16]
@[simp] theorem read16_x (a : Addr) (s : State) : (read16 a s).2.x = s.x := by simp [read16]
@[simp] theorem read16_y (a : Addr) (s : State) : (read16 a s).2.y = s.y := by simp [read16]
@[simp] theorem read16_sp (a : Addr) (s : State) : (read16 a s).2.sp = s.sp := by simp [read16]
@[simp] theorem read16_pc (a : Addr) (s : State) : (read16 a s).2.pc = s.pc := by simp [read16]
@[simp] theorem read16_p (a : Addr) (s : State) : (read16 a s).2.p = s.p := by simp [read16]
@[simp] theorem read16_run (a : Addr) (s : State) : (read16 a s).2.run = s.run := by simp [read16]
@[simp] theorem read16_budget (a : Addr) (s : State) : (read16 a s).2.budget = s.budget := by simp [read16]
@[simp] theorem read16_resetPending (a : Addr) (s : State) : (read16 a s).2.resetPending = s.resetPending := by simp [read16]
@[simp] theorem read16_nmiPending (a : Addr) (s : State) : (read16 a s).2.nmiPending = s.nmiPending := by simp [read16]
@[simp] theorem read16_irqLine (a : Addr) (s : State) : (read16 a s).2.irqLine = s.irqLine := by simp [read16]
@[simp] theorem read16_cpuMem (a : Addr) (s : State) : (read16 a s).2.cpuMem = s.cpuMem := by simp [read16]
@[simp] theorem read16_ppuMem (a : Addr) (s : State) : (read16 a s).2.ppuMem = s.ppuMem := by simp [read16]
@[simp] theorem read16_cart (a : Addr) (s : State) : (read16 a s).2.cart = s.cart := by simp [read16]
@[simp] theorem read16_config (a : Addr) (s : State) : (read16 a s).2.config = s.config := by simp [read16]
@[simp] theorem read16_hostEvents (a : Addr) (s : State) : (read16 a s).2.hostEvents = s.hostEvents := by simp [read16]

@[simp] theorem read16Zp_a (z : Byte) (s : State) : (read16Zp z s).2.a = s.a := by simp [read16Zp]
@[simp] theorem read16Zp_x (z : Byte) (s : State) : (read16Zp z s).2.x = s.x := by simp [read16Zp]
@[simp] theorem read16Zp_y (z : Byte) (s : State) : (read16Zp z s).2.y = s.y := by simp [read16Zp]
@[simp] theorem read16Zp_sp (z : Byte) (s : State) : (read16Zp z s).2.sp = s.sp := by simp [read16Zp]
@[simp] theorem read16Zp_pc (z : Byte) (s : State) : (read16Zp z s).2.pc = s.pc := by simp [read16Zp]
@[simp] theorem read16Zp_p (z : Byte) (s : State) : (read16Zp z s).2.p = s.p := by simp [read16Zp]
@[simp] theorem read16Zp_run (z : Byte) (s : State) : (read16Zp z s).2.run = s.run := by simp [read16Zp]
@[simp] theorem read16Zp_budget (z : Byte) (s : State) : (read16Zp z s).2.budget = s.budget := by simp [read16Zp]
@[simp] theorem read16Zp_resetPending (z : Byte) (s : State) : (read16Zp z s).2.resetPending = s.resetPending := by simp [read16Zp]
@[simp] theorem read16Zp_nmiPending (z : Byte) (s : State) : (read16Zp z s).2.nmiPending = s.nmiPending := by simp [read16Zp]
@[simp] theorem read16Zp_irqLine (z : Byte) (s : State) : (read16Zp z s).2.irqLine = s.irqLine := by simp [read16Zp]
@[simp] theorem read16Zp_cpuMem (z : Byte) (s : State) : (read16Zp z s).2.cpuMem = s.cpuMem := by simp [read16Zp]
@[simp] theorem read16Zp_ppuMem (z : Byte) (s : State) : (read16Zp z s).2.ppuMem = s.ppuMem := by simp [read16Zp]
@[simp] theorem read16Zp_cart (z : Byte) (s : State) : (read16Zp z s).2.cart = s.cart := by simp [read16Zp]
@[simp] theorem read16Zp_config (z : Byte) (s : State) : (read16Zp z s).2.config = s.config := by simp [read16Zp]
@[simp] theorem read16Zp_hostEvents (z : Byte) (s : State) : (read16Zp z s).2.hostEvents = s.hostEvents := by simp [read16Zp]

@[simp] theorem read16Bug_a (a : Addr) (s : State) : (read16Bug a s).2.a = s.a := by simp [read16Bug]
@[simp] theorem read16Bug_x (a : Addr) (s : State) : (read16Bug a s).2.x = s.x := by simp [read16Bug]
@[simp] theorem read16Bug_y (a : Addr) (s : State) : (read16Bug a s).2.y = s.y := by simp [read16Bug]
@[simp] theorem read16Bug_sp (a : Addr) (s : State) : (read16Bug a s).2.sp = s.sp := by simp [read16Bug]
@[simp] theorem read16Bug_pc (a : Addr) (s : State) : (read16Bug a s).2.pc = s.pc := by simp [read16Bug]
@[simp] theorem read16Bug_p (a : Addr) (s : State) : (read16Bug a s).2.p = s.p := by simp [read16Bug]
@[simp] theorem read16Bug_run (a : Addr) (s : State) : (read16Bug a s).2.run = s.run := by simp [read16Bug]
@[simp] theorem read16Bug_budget (a : Addr) (s : State) : (read16Bug a s).2.budget = s.budget := by simp [read16Bug]
@[simp] theorem read16Bug_resetPending (a : Addr) (s : State) : (read16Bug a s).2.resetPending = s.resetPending := by simp [read16Bug]
@[simp] theorem read16Bug_nmiPending (a : Addr) (s : State) : (read16Bug a s).2.nmiPending = s.nmiPending := by simp [read16Bug]
@[simp] theorem read16Bug_irqLine (a : Addr) (s : State) : (read16Bug a s).2.irqLine = s.irqLine := by simp [read16Bug]
@[simp] theorem read16Bug_cpuMem (a : Addr) (s : State) : (read16Bug a s).2.cpuMem = s.cpuMem := by simp [read16Bug]
@[simp] theorem read16Bug_ppuMem (a : Addr) (s : State) : (read16Bug a s).2.ppuMem = s.ppuMem := by simp [read16Bug]
@[simp] theorem read16Bug_cart (a : Addr) (s : State) : (read16Bug a s).2.cart = s.cart := by simp [read16Bug]
@[simp] theorem read16Bug_config (a : Addr) (s : State) : (read16Bug a s).2.config = s.config := by simp [read16Bug]
@[simp] theorem read16Bug_hostEvents (a : Addr) (s : State) : (read16Bug a s).2.hostEvents = s.hostEvents := by simp [read16Bug]

/-- The zero page holds no window: a zero-page pointer is two bytes of storage, and reading it changes nothing. -/
theorem read16Zp_plain (z : Byte) (s : State) :
    read16Zp z s = (word (s.cpuMem.read (zext z).toNat) (s.cpuMem.read (zext (z + 1)).toNat), s) :=
  readPair_plain (shimReg_zext z) (shimReg_zext (z + 1)) s

/-! ### The stack: its page holds no window, so a push is a store and a pull is a load -/

theorem push_eq (v : Byte) (s : State) :
    push v s = { s with sp := s.sp - 1, cpuMem := s.cpuMem.write (stackAddr s.sp).toNat v } := by
  have h : (stackAddr s.sp).toNat < 0x8000 := by
    have := s.sp.isLt
    rw [toNat_stackAddr]; omega
  simp only [push, memWrite_plain (shimReg_stackAddr s.sp) v (Or.inl h)]
  rfl

theorem pull_eq (s : State) :
    pull s = (s.cpuMem.read (stackAddr (s.sp + 1)).toNat, { s with sp := s.sp + 1 }) := by
  simp only [pull, memRead_plain (shimReg_stackAddr (s.sp + 1))]
  rfl

@[simp] theorem push_a (v : Byte) (s : State) : (push v s).a = s.a := by simp [push_eq]
@[simp] theorem push_x (v : Byte) (s : State) : (push v s).x = s.x := by simp [push_eq]
@[simp] theorem push_y (v : Byte) (s : State) : (push v s).y = s.y := by simp [push_eq]
@[simp] theorem push_pc (v : Byte) (s : State) : (push v s).pc = s.pc := by simp [push_eq]
@[simp] theorem push_p (v : Byte) (s : State) : (push v s).p = s.p := by simp [push_eq]
@[simp] theorem push_run (v : Byte) (s : State) : (push v s).run = s.run := by simp [push_eq]
@[simp] theorem push_budget (v : Byte) (s : State) : (push v s).budget = s.budget := by simp [push_eq]
@[simp] theorem push_resetPending (v : Byte) (s : State) : (push v s).resetPending = s.resetPending := by simp [push_eq]
@[simp] theorem push_nmiPending (v : Byte) (s : State) : (push v s).nmiPending = s.nmiPending := by simp [push_eq]
@[simp] theorem push_irqLine (v : Byte) (s : State) : (push v s).irqLine = s.irqLine := by simp [push_eq]
@[simp] theorem push_ppuMem (v : Byte) (s : State) : (push v s).ppuMem = s.ppuMem := by simp [push_eq]
@[simp] theorem push_shim (v : Byte) (s : State) : (push v s).shim = s.shim := by simp [push_eq]
@[simp] theorem push_cart (v : Byte) (s : State) : (push v s).cart = s.cart := by simp [push_eq]
@[simp] theorem push_config (v : Byte) (s : State) : (push v s).config = s.config := by simp [push_eq]
@[simp] theorem push_draws (v : Byte) (s : State) : (push v s).draws = s.draws := by simp [push_eq]
@[simp] theorem push_hostEvents (v : Byte) (s : State) : (push v s).hostEvents = s.hostEvents := by simp [push_eq]

@[simp] theorem pushWord_a (w : Addr) (s : State) : (pushWord w s).a = s.a := by simp [pushWord]
@[simp] theorem pushWord_x (w : Addr) (s : State) : (pushWord w s).x = s.x := by simp [pushWord]
@[simp] theorem pushWord_y (w : Addr) (s : State) : (pushWord w s).y = s.y := by simp [pushWord]
@[simp] theorem pushWord_pc (w : Addr) (s : State) : (pushWord w s).pc = s.pc := by simp [pushWord]
@[simp] theorem pushWord_p (w : Addr) (s : State) : (pushWord w s).p = s.p := by simp [pushWord]
@[simp] theorem pushWord_run (w : Addr) (s : State) : (pushWord w s).run = s.run := by simp [pushWord]
@[simp] theorem pushWord_budget (w : Addr) (s : State) : (pushWord w s).budget = s.budget := by simp [pushWord]
@[simp] theorem pushWord_resetPending (w : Addr) (s : State) : (pushWord w s).resetPending = s.resetPending := by simp [pushWord]
@[simp] theorem pushWord_nmiPending (w : Addr) (s : State) : (pushWord w s).nmiPending = s.nmiPending := by simp [pushWord]
@[simp] theorem pushWord_irqLine (w : Addr) (s : State) : (pushWord w s).irqLine = s.irqLine := by simp [pushWord]
@[simp] theorem pushWord_ppuMem (w : Addr) (s : State) : (pushWord w s).ppuMem = s.ppuMem := by simp [pushWord]
@[simp] theorem pushWord_shim (w : Addr) (s : State) : (pushWord w s).shim = s.shim := by simp [pushWord]
@[simp] theorem pushWord_cart (w : Addr) (s : State) : (pushWord w s).cart = s.cart := by simp [pushWord]
@[simp] theorem pushWord_config (w : Addr) (s : State) : (pushWord w s).config = s.config := by simp [pushWord]
@[simp] theorem pushWord_draws (w : Addr) (s : State) : (pushWord w s).draws = s.draws := by simp [pushWord]
@[simp] theorem pushWord_hostEvents (w : Addr) (s : State) : (pushWord w s).hostEvents = s.hostEvents := by simp [pushWord]

@[simp] theorem pull_a (s : State) : (pull s).2.a = s.a := by simp [pull_eq]
@[simp] theorem pull_x (s : State) : (pull s).2.x = s.x := by simp [pull_eq]
@[simp] theorem pull_y (s : State) : (pull s).2.y = s.y := by simp [pull_eq]
@[simp] theorem pull_pc (s : State) : (pull s).2.pc = s.pc := by simp [pull_eq]
@[simp] theorem pull_p (s : State) : (pull s).2.p = s.p := by simp [pull_eq]
@[simp] theorem pull_run (s : State) : (pull s).2.run = s.run := by simp [pull_eq]
@[simp] theorem pull_budget (s : State) : (pull s).2.budget = s.budget := by simp [pull_eq]
@[simp] theorem pull_resetPending (s : State) : (pull s).2.resetPending = s.resetPending := by simp [pull_eq]
@[simp] theorem pull_nmiPending (s : State) : (pull s).2.nmiPending = s.nmiPending := by simp [pull_eq]
@[simp] theorem pull_irqLine (s : State) : (pull s).2.irqLine = s.irqLine := by simp [pull_eq]
@[simp] theorem pull_cpuMem (s : State) : (pull s).2.cpuMem = s.cpuMem := by simp [pull_eq]
@[simp] theorem pull_ppuMem (s : State) : (pull s).2.ppuMem = s.ppuMem := by simp [pull_eq]
@[simp] theorem pull_shim (s : State) : (pull s).2.shim = s.shim := by simp [pull_eq]
@[simp] theorem pull_cart (s : State) : (pull s).2.cart = s.cart := by simp [pull_eq]
@[simp] theorem pull_config (s : State) : (pull s).2.config = s.config := by simp [pull_eq]
@[simp] theorem pull_draws (s : State) : (pull s).2.draws = s.draws := by simp [pull_eq]
@[simp] theorem pull_hostEvents (s : State) : (pull s).2.hostEvents = s.hostEvents := by simp [pull_eq]

@[simp] theorem pullWord_a (s : State) : (pullWord s).2.a = s.a := by simp [pullWord]
@[simp] theorem pullWord_x (s : State) : (pullWord s).2.x = s.x := by simp [pullWord]
@[simp] theorem pullWord_y (s : State) : (pullWord s).2.y = s.y := by simp [pullWord]
@[simp] theorem pullWord_pc (s : State) : (pullWord s).2.pc = s.pc := by simp [pullWord]
@[simp] theorem pullWord_p (s : State) : (pullWord s).2.p = s.p := by simp [pullWord]
@[simp] theorem pullWord_run (s : State) : (pullWord s).2.run = s.run := by simp [pullWord]
@[simp] theorem pullWord_budget (s : State) : (pullWord s).2.budget = s.budget := by simp [pullWord]
@[simp] theorem pullWord_resetPending (s : State) : (pullWord s).2.resetPending = s.resetPending := by simp [pullWord]
@[simp] theorem pullWord_nmiPending (s : State) : (pullWord s).2.nmiPending = s.nmiPending := by simp [pullWord]
@[simp] theorem pullWord_irqLine (s : State) : (pullWord s).2.irqLine = s.irqLine := by simp [pullWord]
@[simp] theorem pullWord_cpuMem (s : State) : (pullWord s).2.cpuMem = s.cpuMem := by simp [pullWord]
@[simp] theorem pullWord_ppuMem (s : State) : (pullWord s).2.ppuMem = s.ppuMem := by simp [pullWord]
@[simp] theorem pullWord_shim (s : State) : (pullWord s).2.shim = s.shim := by simp [pullWord]
@[simp] theorem pullWord_cart (s : State) : (pullWord s).2.cart = s.cart := by simp [pullWord]
@[simp] theorem pullWord_config (s : State) : (pullWord s).2.config = s.config := by simp [pullWord]
@[simp] theorem pullWord_draws (s : State) : (pullWord s).2.draws = s.draws := by simp [pullWord]
@[simp] theorem pullWord_hostEvents (s : State) : (pullWord s).2.hostEvents = s.hostEvents := by simp [pullWord]

@[simp] theorem push_sp (v : Byte) (s : State) : (push v s).sp = s.sp - 1 := by simp [push_eq]
@[simp] theorem pushWord_sp (w : Addr) (s : State) : (pushWord w s).sp = s.sp - 2 := by
  simp only [pushWord, push_sp]; bv_omega
@[simp] theorem pull_sp (s : State) : (pull s).2.sp = s.sp + 1 := by simp [pull_eq]
@[simp] theorem pullWord_sp (s : State) : (pullWord s).2.sp = s.sp + 2 := by
  simp only [pullWord, pull_sp]; bv_omega

theorem push_cpuMem (v : Byte) (s : State) :
    (push v s).cpuMem = s.cpuMem.write (stackAddr s.sp).toNat v := by simp [push_eq]

theorem push_wf {v : Byte} {s : State} (h : s.cpuMem.wf cpuMemSize = true) :
    (push v s).cpuMem.wf cpuMemSize = true := by
  rw [push_cpuMem]; exact Memory.write_wf h (stackAddr s.sp).isLt

theorem pushWord_wf {w : Addr} {s : State} (h : s.cpuMem.wf cpuMemSize = true) :
    (pushWord w s).cpuMem.wf cpuMemSize = true := push_wf (push_wf h)

/-- Outside the stack page a push leaves every byte. -/
theorem push_read_other {v : Byte} {s : State} {b : Nat} (h : b < 0x100 ∨ 0x200 ≤ b) :
    (push v s).cpuMem.read b = s.cpuMem.read b := by
  rw [push_cpuMem]
  refine Memory.read_write_other ?_ v s.cpuMem
  have := s.sp.isLt
  rw [toNat_stackAddr]; omega

theorem pushWord_read_other {w : Addr} {s : State} {b : Nat} (h : b < 0x100 ∨ 0x200 ≤ b) :
    (pushWord w s).cpuMem.read b = s.cpuMem.read b := by
  rw [pushWord, push_read_other h, push_read_other h]

/-! ### Taking and leaving an exception -/

/-- A vector outside the window: the PC is the pair of bytes stored there, and nothing else changes. -/
theorem jumpThrough_plain {vector : Addr} (hl : shimReg vector = none) (hh : shimReg (vector + 1) = none) (s : State) :
    jumpThrough vector s =
      s.setPc (word (s.cpuMem.read vector.toNat) (s.cpuMem.read (vector + 1).toNat)) := by
  simp only [jumpThrough, read16]
  rw [readPair_plain hl hh]

@[simp] theorem jumpThrough_a (vector : Addr) (s : State) : (jumpThrough vector s).a = s.a := by simp [jumpThrough]
@[simp] theorem jumpThrough_x (vector : Addr) (s : State) : (jumpThrough vector s).x = s.x := by simp [jumpThrough]
@[simp] theorem jumpThrough_y (vector : Addr) (s : State) : (jumpThrough vector s).y = s.y := by simp [jumpThrough]
@[simp] theorem jumpThrough_sp (vector : Addr) (s : State) : (jumpThrough vector s).sp = s.sp := by simp [jumpThrough]
@[simp] theorem jumpThrough_p (vector : Addr) (s : State) : (jumpThrough vector s).p = s.p := by simp [jumpThrough]
@[simp] theorem jumpThrough_run (vector : Addr) (s : State) : (jumpThrough vector s).run = s.run := by simp [jumpThrough]
@[simp] theorem jumpThrough_budget (vector : Addr) (s : State) : (jumpThrough vector s).budget = s.budget := by simp [jumpThrough]
@[simp] theorem jumpThrough_resetPending (vector : Addr) (s : State) : (jumpThrough vector s).resetPending = s.resetPending := by simp [jumpThrough]
@[simp] theorem jumpThrough_nmiPending (vector : Addr) (s : State) : (jumpThrough vector s).nmiPending = s.nmiPending := by simp [jumpThrough]
@[simp] theorem jumpThrough_irqLine (vector : Addr) (s : State) : (jumpThrough vector s).irqLine = s.irqLine := by simp [jumpThrough]
@[simp] theorem jumpThrough_cpuMem (vector : Addr) (s : State) : (jumpThrough vector s).cpuMem = s.cpuMem := by simp [jumpThrough]
@[simp] theorem jumpThrough_ppuMem (vector : Addr) (s : State) : (jumpThrough vector s).ppuMem = s.ppuMem := by simp [jumpThrough]
@[simp] theorem jumpThrough_cart (vector : Addr) (s : State) : (jumpThrough vector s).cart = s.cart := by simp [jumpThrough]
@[simp] theorem jumpThrough_config (vector : Addr) (s : State) : (jumpThrough vector s).config = s.config := by simp [jumpThrough]
@[simp] theorem jumpThrough_hostEvents (vector : Addr) (s : State) : (jumpThrough vector s).hostEvents = s.hostEvents := by simp [jumpThrough]

@[simp] theorem interruptEntry_a (ret : Addr) (b : Bool) (vector : Addr) (s : State) :
    (interruptEntry ret b vector s).a = s.a := by simp [interruptEntry, State.setI]
@[simp] theorem interruptEntry_x (ret : Addr) (b : Bool) (vector : Addr) (s : State) :
    (interruptEntry ret b vector s).x = s.x := by simp [interruptEntry, State.setI]
@[simp] theorem interruptEntry_y (ret : Addr) (b : Bool) (vector : Addr) (s : State) :
    (interruptEntry ret b vector s).y = s.y := by simp [interruptEntry, State.setI]
@[simp] theorem interruptEntry_run (ret : Addr) (b : Bool) (vector : Addr) (s : State) :
    (interruptEntry ret b vector s).run = s.run := by simp [interruptEntry, State.setI]
@[simp] theorem interruptEntry_budget (ret : Addr) (b : Bool) (vector : Addr) (s : State) :
    (interruptEntry ret b vector s).budget = s.budget := by simp [interruptEntry, State.setI]
@[simp] theorem interruptEntry_resetPending (ret : Addr) (b : Bool) (vector : Addr) (s : State) :
    (interruptEntry ret b vector s).resetPending = s.resetPending := by simp [interruptEntry, State.setI]
@[simp] theorem interruptEntry_nmiPending (ret : Addr) (b : Bool) (vector : Addr) (s : State) :
    (interruptEntry ret b vector s).nmiPending = s.nmiPending := by simp [interruptEntry, State.setI]
@[simp] theorem interruptEntry_irqLine (ret : Addr) (b : Bool) (vector : Addr) (s : State) :
    (interruptEntry ret b vector s).irqLine = s.irqLine := by simp [interruptEntry, State.setI]
@[simp] theorem interruptEntry_ppuMem (ret : Addr) (b : Bool) (vector : Addr) (s : State) :
    (interruptEntry ret b vector s).ppuMem = s.ppuMem := by simp [interruptEntry, State.setI]
@[simp] theorem interruptEntry_cart (ret : Addr) (b : Bool) (vector : Addr) (s : State) :
    (interruptEntry ret b vector s).cart = s.cart := by simp [interruptEntry, State.setI]
@[simp] theorem interruptEntry_config (ret : Addr) (b : Bool) (vector : Addr) (s : State) :
    (interruptEntry ret b vector s).config = s.config := by simp [interruptEntry, State.setI]
@[simp] theorem interruptEntry_hostEvents (ret : Addr) (b : Bool) (vector : Addr) (s : State) :
    (interruptEntry ret b vector s).hostEvents = s.hostEvents := by simp [interruptEntry, State.setI]
@[simp] theorem interruptEntry_p (ret : Addr) (b : Bool) (vector : Addr) (s : State) :
    (interruptEntry ret b vector s).p = { s.p with i := true } := by simp [interruptEntry, State.setI]
@[simp] theorem interruptEntry_sp (ret : Addr) (b : Bool) (vector : Addr) (s : State) :
    (interruptEntry ret b vector s).sp = s.sp - 3 := by
  simp only [interruptEntry, jumpThrough_sp, State.setI_sp, push_sp, pushWord_sp]; bv_omega

theorem interruptEntry_wf {ret : Addr} {b : Bool} {vector : Addr} {s : State} (h : s.cpuMem.wf cpuMemSize = true) :
    (interruptEntry ret b vector s).cpuMem.wf cpuMemSize = true := by
  simp only [interruptEntry, jumpThrough_cpuMem, State.setI_cpuMem]
  exact push_wf (pushWord_wf h)

@[simp] theorem interruptReturn_a (s : State) : (interruptReturn s).a = s.a := by simp [interruptReturn]
@[simp] theorem interruptReturn_x (s : State) : (interruptReturn s).x = s.x := by simp [interruptReturn]
@[simp] theorem interruptReturn_y (s : State) : (interruptReturn s).y = s.y := by simp [interruptReturn]
@[simp] theorem interruptReturn_run (s : State) : (interruptReturn s).run = s.run := by simp [interruptReturn]
@[simp] theorem interruptReturn_budget (s : State) : (interruptReturn s).budget = s.budget := by simp [interruptReturn]
@[simp] theorem interruptReturn_resetPending (s : State) : (interruptReturn s).resetPending = s.resetPending := by simp [interruptReturn]
@[simp] theorem interruptReturn_nmiPending (s : State) : (interruptReturn s).nmiPending = s.nmiPending := by simp [interruptReturn]
@[simp] theorem interruptReturn_irqLine (s : State) : (interruptReturn s).irqLine = s.irqLine := by simp [interruptReturn]
@[simp] theorem interruptReturn_cpuMem (s : State) : (interruptReturn s).cpuMem = s.cpuMem := by simp [interruptReturn]
@[simp] theorem interruptReturn_ppuMem (s : State) : (interruptReturn s).ppuMem = s.ppuMem := by simp [interruptReturn]
@[simp] theorem interruptReturn_shim (s : State) : (interruptReturn s).shim = s.shim := by simp [interruptReturn]
@[simp] theorem interruptReturn_cart (s : State) : (interruptReturn s).cart = s.cart := by simp [interruptReturn]
@[simp] theorem interruptReturn_config (s : State) : (interruptReturn s).config = s.config := by simp [interruptReturn]
@[simp] theorem interruptReturn_draws (s : State) : (interruptReturn s).draws = s.draws := by simp [interruptReturn]
@[simp] theorem interruptReturn_hostEvents (s : State) : (interruptReturn s).hostEvents = s.hostEvents := by simp [interruptReturn]
@[simp] theorem interruptReturn_sp (s : State) : (interruptReturn s).sp = s.sp + 3 := by
  simp only [interruptReturn, State.setPc_sp, pullWord_sp, State.setP_sp, pull_sp]; bv_omega
@[simp] theorem interruptReturn_p (s : State) : (interruptReturn s).p = Status.pulled (pull s).1 := by
  simp [interruptReturn]

end Sys2Proof.Machine
end

