-- ==== Sys2Proof/Laws/Operands.lean ====
section
/-! SUPPORT. The operand forms and the course of an instruction, said once: resolving changes nothing, loading is one bus
read, and each course is its effect applied to the loaded byte with the PC already advanced. -/

namespace Sys2Proof.Machine

/-! ### Resolving: the pointers of (zp,X) and (zp),Y lie in the zero page, so no resolver has a side effect -/

@[simp] theorem effective_state (m : Addressing) (s : State) : (effective m s).state = s := by
  cases m <;> simp [effective, Effective.fixed, Effective.indexed, read16Zp_plain]

theorem effective_setPc (m : Addressing) (v : Addr) (s : State) :
    (effective m (s.setPc v)).ea = (effective m s).ea ∧ (effective m (s.setPc v)).cross = (effective m s).cross := by
  cases m <;> simp [effective, Effective.fixed, Effective.indexed, read16Zp_plain]

@[simp] theorem resolveSource_state (o : Source) (s : State) : (resolveSource o s).state = s := by
  cases o <;> simp [resolveSource, resolveMem]

@[simp] theorem resolveTarget_state (t : Target) (s : State) : (resolveTarget t s).state = s := by
  cases t <;> simp [resolveTarget, resolveMem]

/-! ### Loading and storing -/

theorem load_setPc (p : Place) (v : Addr) (s : State) : load p (s.setPc v) = ((load p s).1, (load p s).2.setPc v) := by
  cases p with
  | mem ea => exact memRead_setPc ea v s
  | _ => rfl

theorem load_state (p : Place) (s : State) : ∃ sh d, (load p s).2 = { s with shim := sh, draws := d } := by
  cases p with
  | mem ea => exact memRead_state ea s
  | _ => exact ⟨s.shim, s.draws, rfl⟩

@[simp] theorem load_a (p : Place) (s : State) : (load p s).2.a = s.a := by
  obtain ⟨_, _, h⟩ := load_state p s; rw [h]
@[simp] theorem load_x (p : Place) (s : State) : (load p s).2.x = s.x := by
  obtain ⟨_, _, h⟩ := load_state p s; rw [h]
@[simp] theorem load_y (p : Place) (s : State) : (load p s).2.y = s.y := by
  obtain ⟨_, _, h⟩ := load_state p s; rw [h]
@[simp] theorem load_sp (p : Place) (s : State) : (load p s).2.sp = s.sp := by
  obtain ⟨_, _, h⟩ := load_state p s; rw [h]
@[simp] theorem load_pc (p : Place) (s : State) : (load p s).2.pc = s.pc := by
  obtain ⟨_, _, h⟩ := load_state p s; rw [h]
@[simp] theorem load_p (p : Place) (s : State) : (load p s).2.p = s.p := by
  obtain ⟨_, _, h⟩ := load_state p s; rw [h]
@[simp] theorem load_run (p : Place) (s : State) : (load p s).2.run = s.run := by
  obtain ⟨_, _, h⟩ := load_state p s; rw [h]
@[simp] theorem load_budget (p : Place) (s : State) : (load p s).2.budget = s.budget := by
  obtain ⟨_, _, h⟩ := load_state p s; rw [h]
@[simp] theorem load_resetPending (p : Place) (s : State) : (load p s).2.resetPending = s.resetPending := by
  obtain ⟨_, _, h⟩ := load_state p s; rw [h]
@[simp] theorem load_nmiPending (p : Place) (s : State) : (load p s).2.nmiPending = s.nmiPending := by
  obtain ⟨_, _, h⟩ := load_state p s; rw [h]
@[simp] theorem load_irqLine (p : Place) (s : State) : (load p s).2.irqLine = s.irqLine := by
  obtain ⟨_, _, h⟩ := load_state p s; rw [h]
@[simp] theorem load_cpuMem (p : Place) (s : State) : (load p s).2.cpuMem = s.cpuMem := by
  obtain ⟨_, _, h⟩ := load_state p s; rw [h]
@[simp] theorem load_ppuMem (p : Place) (s : State) : (load p s).2.ppuMem = s.ppuMem := by
  obtain ⟨_, _, h⟩ := load_state p s; rw [h]
@[simp] theorem load_cart (p : Place) (s : State) : (load p s).2.cart = s.cart := by
  obtain ⟨_, _, h⟩ := load_state p s; rw [h]
@[simp] theorem load_config (p : Place) (s : State) : (load p s).2.config = s.config := by
  obtain ⟨_, _, h⟩ := load_state p s; rw [h]
@[simp] theorem load_hostEvents (p : Place) (s : State) : (load p s).2.hostEvents = s.hostEvents := by
  obtain ⟨_, _, h⟩ := load_state p s; rw [h]

@[simp] theorem store_x (p : Place) (v : Byte) (s : State) : (store p v s).x = s.x := by cases p <;> simp [store]
@[simp] theorem store_y (p : Place) (v : Byte) (s : State) : (store p v s).y = s.y := by cases p <;> simp [store]
@[simp] theorem store_sp (p : Place) (v : Byte) (s : State) : (store p v s).sp = s.sp := by cases p <;> simp [store]
@[simp] theorem store_pc (p : Place) (v : Byte) (s : State) : (store p v s).pc = s.pc := by cases p <;> simp [store]
@[simp] theorem store_p (p : Place) (v : Byte) (s : State) : (store p v s).p = s.p := by cases p <;> simp [store]
@[simp] theorem store_run (p : Place) (v : Byte) (s : State) : (store p v s).run = s.run := by cases p <;> simp [store]
@[simp] theorem store_budget (p : Place) (v : Byte) (s : State) : (store p v s).budget = s.budget := by cases p <;> simp [store]
@[simp] theorem store_resetPending (p : Place) (v : Byte) (s : State) : (store p v s).resetPending = s.resetPending := by cases p <;> simp [store]
@[simp] theorem store_irqLine (p : Place) (v : Byte) (s : State) : (store p v s).irqLine = s.irqLine := by cases p <;> simp [store]
@[simp] theorem store_cart (p : Place) (v : Byte) (s : State) : (store p v s).cart = s.cart := by cases p <;> simp [store]
@[simp] theorem store_config (p : Place) (v : Byte) (s : State) : (store p v s).config = s.config := by cases p <;> simp [store]
@[simp] theorem store_draws (p : Place) (v : Byte) (s : State) : (store p v s).draws = s.draws := by cases p <;> simp [store]
@[simp] theorem store_hostEvents (p : Place) (v : Byte) (s : State) : (store p v s).hostEvents = s.hostEvents := by cases p <;> simp [store]

theorem store_setPc (p : Place) (v : Byte) (pc : Addr) (s : State) : store p v (s.setPc pc) = (store p v s).setPc pc := by
  cases p with
  | mem ea => exact memWrite_setPc ea pc v s
  | _ => rfl

/-! ### The courses -/

@[simp] theorem finish_a (i : Instr) (e : Nat) (s : State) : (finish i e s).a = s.a := rfl
@[simp] theorem finish_x (i : Instr) (e : Nat) (s : State) : (finish i e s).x = s.x := rfl
@[simp] theorem finish_y (i : Instr) (e : Nat) (s : State) : (finish i e s).y = s.y := rfl
@[simp] theorem finish_sp (i : Instr) (e : Nat) (s : State) : (finish i e s).sp = s.sp := rfl
@[simp] theorem finish_pc (i : Instr) (e : Nat) (s : State) : (finish i e s).pc = s.pc := rfl
@[simp] theorem finish_p (i : Instr) (e : Nat) (s : State) : (finish i e s).p = s.p := rfl
@[simp] theorem finish_run (i : Instr) (e : Nat) (s : State) : (finish i e s).run = s.run := rfl
@[simp] theorem finish_budget (i : Instr) (e : Nat) (s : State) : (finish i e s).budget = i.baseCycles + e - 1 := rfl
@[simp] theorem finish_resetPending (i : Instr) (e : Nat) (s : State) : (finish i e s).resetPending = s.resetPending := rfl
@[simp] theorem finish_nmiPending (i : Instr) (e : Nat) (s : State) : (finish i e s).nmiPending = s.nmiPending := rfl
@[simp] theorem finish_irqLine (i : Instr) (e : Nat) (s : State) : (finish i e s).irqLine = s.irqLine := rfl
@[simp] theorem finish_cpuMem (i : Instr) (e : Nat) (s : State) : (finish i e s).cpuMem = s.cpuMem := rfl
@[simp] theorem finish_ppuMem (i : Instr) (e : Nat) (s : State) : (finish i e s).ppuMem = s.ppuMem := rfl
@[simp] theorem finish_shim (i : Instr) (e : Nat) (s : State) : (finish i e s).shim = s.shim := rfl
@[simp] theorem finish_cart (i : Instr) (e : Nat) (s : State) : (finish i e s).cart = s.cart := rfl
@[simp] theorem finish_config (i : Instr) (e : Nat) (s : State) : (finish i e s).config = s.config := rfl
@[simp] theorem finish_draws (i : Instr) (e : Nat) (s : State) : (finish i e s).draws = s.draws := rfl
@[simp] theorem finish_hostEvents (i : Instr) (e : Nat) (s : State) : (finish i e s).hostEvents = s.hostEvents := rfl
@[simp] theorem advance_a (i : Instr) (s : State) : (advance i s).a = s.a := rfl
@[simp] theorem advance_x (i : Instr) (s : State) : (advance i s).x = s.x := rfl
@[simp] theorem advance_y (i : Instr) (s : State) : (advance i s).y = s.y := rfl
@[simp] theorem advance_sp (i : Instr) (s : State) : (advance i s).sp = s.sp := rfl
@[simp] theorem advance_pc (i : Instr) (s : State) : (advance i s).pc = s.pc + BitVec.ofNat 16 i.length := rfl
@[simp] theorem advance_p (i : Instr) (s : State) : (advance i s).p = s.p := rfl
@[simp] theorem advance_run (i : Instr) (s : State) : (advance i s).run = s.run := rfl
@[simp] theorem advance_budget (i : Instr) (s : State) : (advance i s).budget = s.budget := rfl
@[simp] theorem advance_resetPending (i : Instr) (s : State) : (advance i s).resetPending = s.resetPending := rfl
@[simp] theorem advance_nmiPending (i : Instr) (s : State) : (advance i s).nmiPending = s.nmiPending := rfl
@[simp] theorem advance_irqLine (i : Instr) (s : State) : (advance i s).irqLine = s.irqLine := rfl
@[simp] theorem advance_cpuMem (i : Instr) (s : State) : (advance i s).cpuMem = s.cpuMem := rfl
@[simp] theorem advance_ppuMem (i : Instr) (s : State) : (advance i s).ppuMem = s.ppuMem := rfl
@[simp] theorem advance_shim (i : Instr) (s : State) : (advance i s).shim = s.shim := rfl
@[simp] theorem advance_cart (i : Instr) (s : State) : (advance i s).cart = s.cart := rfl
@[simp] theorem advance_config (i : Instr) (s : State) : (advance i s).config = s.config := rfl
@[simp] theorem advance_draws (i : Instr) (s : State) : (advance i s).draws = s.draws := rfl
@[simp] theorem advance_hostEvents (i : Instr) (s : State) : (advance i s).hostEvents = s.hostEvents := rfl

theorem runRead_eq (i : Instr) (o : Source) (effect : Byte → State → State) (s : State) :
    runRead i o effect s =
      finish i (penalty (resolveSource o s).cross)
        (effect (load (resolveSource o s).place s).1 (advance i (load (resolveSource o s).place s).2)) := by
  simp [runRead, advance, load_setPc]

theorem runStore_eq (i : Instr) (m : Addressing) (value : State → Byte) (s : State) :
    runStore i m value s =
      finish i 0 (advance i (memWrite (effective m s).ea (value (advance i s)) s)) := by
  simp [runStore, advance, memWrite_setPc]

theorem runModify_eq (i : Instr) (t : Target) (op : Byte → Bool → Byte × Bool) (effect : Byte → Bool → State → State)
    (s : State) :
    runModify i t op effect s =
      let m := load (resolveTarget t s).place s
      let res := op m.1 s.p.c
      finish i 0 (effect res.1 res.2 (advance i (store (resolveTarget t s).place res.1 m.2))) := by
  simp [runModify, advance, load_setPc, store_setPc]

end Sys2Proof.Machine
end

