-- ==== Sys2Proof/Laws/Step.lean ====
section
/-! SUPPORT. What surrounds an instruction, said once: fetching it, the services, the host's events. -/

namespace Sys2Proof.Machine

/-! ### Fetching changes at most the shim and the draw counter (R63, R85) -/

@[simp] theorem fetch_a (s : State) : (fetch s).state.a = s.a := by
  unfold fetch; dsimp only; split <;> [split; skip] <;> simp
@[simp] theorem fetch_x (s : State) : (fetch s).state.x = s.x := by
  unfold fetch; dsimp only; split <;> [split; skip] <;> simp
@[simp] theorem fetch_y (s : State) : (fetch s).state.y = s.y := by
  unfold fetch; dsimp only; split <;> [split; skip] <;> simp
@[simp] theorem fetch_sp (s : State) : (fetch s).state.sp = s.sp := by
  unfold fetch; dsimp only; split <;> [split; skip] <;> simp
@[simp] theorem fetch_pc (s : State) : (fetch s).state.pc = s.pc := by
  unfold fetch; dsimp only; split <;> [split; skip] <;> simp
@[simp] theorem fetch_p (s : State) : (fetch s).state.p = s.p := by
  unfold fetch; dsimp only; split <;> [split; skip] <;> simp
@[simp] theorem fetch_run (s : State) : (fetch s).state.run = s.run := by
  unfold fetch; dsimp only; split <;> [split; skip] <;> simp
@[simp] theorem fetch_budget (s : State) : (fetch s).state.budget = s.budget := by
  unfold fetch; dsimp only; split <;> [split; skip] <;> simp
@[simp] theorem fetch_resetPending (s : State) : (fetch s).state.resetPending = s.resetPending := by
  unfold fetch; dsimp only; split <;> [split; skip] <;> simp
@[simp] theorem fetch_nmiPending (s : State) : (fetch s).state.nmiPending = s.nmiPending := by
  unfold fetch; dsimp only; split <;> [split; skip] <;> simp
@[simp] theorem fetch_irqLine (s : State) : (fetch s).state.irqLine = s.irqLine := by
  unfold fetch; dsimp only; split <;> [split; skip] <;> simp
@[simp] theorem fetch_cpuMem (s : State) : (fetch s).state.cpuMem = s.cpuMem := by
  unfold fetch; dsimp only; split <;> [split; skip] <;> simp
@[simp] theorem fetch_ppuMem (s : State) : (fetch s).state.ppuMem = s.ppuMem := by
  unfold fetch; dsimp only; split <;> [split; skip] <;> simp
@[simp] theorem fetch_cart (s : State) : (fetch s).state.cart = s.cart := by
  unfold fetch; dsimp only; split <;> [split; skip] <;> simp
@[simp] theorem fetch_config (s : State) : (fetch s).state.config = s.config := by
  unfold fetch; dsimp only; split <;> [split; skip] <;> simp
@[simp] theorem fetch_hostEvents (s : State) : (fetch s).state.hostEvents = s.hostEvents := by
  unfold fetch; dsimp only; split <;> [split; skip] <;> simp

/-- A fetch outside the window reads the instruction that the bytes at the PC decode to, and changes nothing (R133). -/
theorem fetch_plain {t : State} {i : Instr} {rest : List Byte} (hw : OutsideWindow t.pc i.length)
    (hd : decode (bytesAt t t.pc 3) = .ok (i, rest)) (ha : i.admitted t.config.unofficial = true) :
    fetch t = { instr := i, state := t } := by
  have w0 : shimReg t.pc = none := by simpa using hw 0 (by simp [Instr.length])
  have m0 := memRead_plain w0 t
  have e2 : t.pc + 1 + 1 = t.pc + 2 := by bv_omega
  simp only [bytesAt, decode, e2] at hd
  split at hd
  · rename_i r b hl
    simp only [Except.ok.injEq, Prod.mk.injEq] at hd
    obtain ⟨rfl, -⟩ := hd
    simp only [fetch, m0, ha, hl, if_true]
  · rename_i r b1 r' hl hr
    simp only [List.cons.injEq] at hr
    obtain ⟨rfl, rfl⟩ := hr
    simp only [Except.ok.injEq, Prod.mk.injEq] at hd
    obtain ⟨rfl, -⟩ := hd
    have w1 : shimReg (t.pc + 1) = none := hw 1 (by rw [Instr.length, instrOf_operandLength, hl]; omega)
    rw [instrOf_admitted] at ha
    simp only [fetch, m0, ha, hl, memRead_plain w1 t, if_true]
  · rename_i r b1 b2 r' hl hr
    simp only [List.cons.injEq] at hr
    obtain ⟨rfl, rfl, rfl⟩ := hr
    simp only [Except.ok.injEq, Prod.mk.injEq] at hd
    obtain ⟨rfl, -⟩ := hd
    have w1 : shimReg (t.pc + 1) = none := hw 1 (by rw [Instr.length, instrOf_operandLength, hl]; omega)
    have w2 : shimReg (t.pc + 2) = none := hw 2 (by rw [Instr.length, instrOf_operandLength, hl]; omega)
    rw [instrOf_admitted] at ha
    simp only [fetch, m0, ha, hl, memRead_plain w1 t, memRead_plain w2 t, if_true]
  · cases hd

/-! ### The host's events change the request latches, the line, and the shim -/

@[simp] theorem applyEvent_a (e : HostEvent) (s : State) : (applyEvent e s).a = s.a := by cases e <;> rfl
@[simp] theorem applyEvent_x (e : HostEvent) (s : State) : (applyEvent e s).x = s.x := by cases e <;> rfl
@[simp] theorem applyEvent_y (e : HostEvent) (s : State) : (applyEvent e s).y = s.y := by cases e <;> rfl
@[simp] theorem applyEvent_sp (e : HostEvent) (s : State) : (applyEvent e s).sp = s.sp := by cases e <;> rfl
@[simp] theorem applyEvent_pc (e : HostEvent) (s : State) : (applyEvent e s).pc = s.pc := by cases e <;> rfl
@[simp] theorem applyEvent_p (e : HostEvent) (s : State) : (applyEvent e s).p = s.p := by cases e <;> rfl
@[simp] theorem applyEvent_run (e : HostEvent) (s : State) : (applyEvent e s).run = s.run := by cases e <;> rfl
@[simp] theorem applyEvent_budget (e : HostEvent) (s : State) : (applyEvent e s).budget = s.budget := by cases e <;> rfl
@[simp] theorem applyEvent_cpuMem (e : HostEvent) (s : State) : (applyEvent e s).cpuMem = s.cpuMem := by cases e <;> rfl
@[simp] theorem applyEvent_ppuMem (e : HostEvent) (s : State) : (applyEvent e s).ppuMem = s.ppuMem := by cases e <;> rfl
@[simp] theorem applyEvent_cart (e : HostEvent) (s : State) : (applyEvent e s).cart = s.cart := by cases e <;> rfl
@[simp] theorem applyEvent_config (e : HostEvent) (s : State) : (applyEvent e s).config = s.config := by cases e <;> rfl
@[simp] theorem applyEvent_draws (e : HostEvent) (s : State) : (applyEvent e s).draws = s.draws := by cases e <;> rfl
@[simp] theorem applyEvent_hostEvents (e : HostEvent) (s : State) : (applyEvent e s).hostEvents = s.hostEvents := by cases e <;> rfl
@[simp] theorem applyEvents_a (es : List HostEvent) (s : State) : (applyEvents es s).a = s.a := by
  induction es generalizing s with
  | nil => rfl
  | cons e es ih => simp [applyEvents, ih]
@[simp] theorem applyEvents_x (es : List HostEvent) (s : State) : (applyEvents es s).x = s.x := by
  induction es generalizing s with
  | nil => rfl
  | cons e es ih => simp [applyEvents, ih]
@[simp] theorem applyEvents_y (es : List HostEvent) (s : State) : (applyEvents es s).y = s.y := by
  induction es generalizing s with
  | nil => rfl
  | cons e es ih => simp [applyEvents, ih]
@[simp] theorem applyEvents_sp (es : List HostEvent) (s : State) : (applyEvents es s).sp = s.sp := by
  induction es generalizing s with
  | nil => rfl
  | cons e es ih => simp [applyEvents, ih]
@[simp] theorem applyEvents_pc (es : List HostEvent) (s : State) : (applyEvents es s).pc = s.pc := by
  induction es generalizing s with
  | nil => rfl
  | cons e es ih => simp [applyEvents, ih]
@[simp] theorem applyEvents_p (es : List HostEvent) (s : State) : (applyEvents es s).p = s.p := by
  induction es generalizing s with
  | nil => rfl
  | cons e es ih => simp [applyEvents, ih]
@[simp] theorem applyEvents_run (es : List HostEvent) (s : State) : (applyEvents es s).run = s.run := by
  induction es generalizing s with
  | nil => rfl
  | cons e es ih => simp [applyEvents, ih]
@[simp] theorem applyEvents_budget (es : List HostEvent) (s : State) : (applyEvents es s).budget = s.budget := by
  induction es generalizing s with
  | nil => rfl
  | cons e es ih => simp [applyEvents, ih]
@[simp] theorem applyEvents_cpuMem (es : List HostEvent) (s : State) : (applyEvents es s).cpuMem = s.cpuMem := by
  induction es generalizing s with
  | nil => rfl
  | cons e es ih => simp [applyEvents, ih]
@[simp] theorem applyEvents_ppuMem (es : List HostEvent) (s : State) : (applyEvents es s).ppuMem = s.ppuMem := by
  induction es generalizing s with
  | nil => rfl
  | cons e es ih => simp [applyEvents, ih]
@[simp] theorem applyEvents_cart (es : List HostEvent) (s : State) : (applyEvents es s).cart = s.cart := by
  induction es generalizing s with
  | nil => rfl
  | cons e es ih => simp [applyEvents, ih]
@[simp] theorem applyEvents_config (es : List HostEvent) (s : State) : (applyEvents es s).config = s.config := by
  induction es generalizing s with
  | nil => rfl
  | cons e es ih => simp [applyEvents, ih]
@[simp] theorem applyEvents_draws (es : List HostEvent) (s : State) : (applyEvents es s).draws = s.draws := by
  induction es generalizing s with
  | nil => rfl
  | cons e es ih => simp [applyEvents, ih]
@[simp] theorem applyEvents_hostEvents (es : List HostEvent) (s : State) : (applyEvents es s).hostEvents = s.hostEvents := by
  induction es generalizing s with
  | nil => rfl
  | cons e es ih => simp [applyEvents, ih]
@[simp] theorem deliver_a (s : State) : (deliver s).a = s.a := by unfold deliver; split <;> simp
@[simp] theorem deliver_x (s : State) : (deliver s).x = s.x := by unfold deliver; split <;> simp
@[simp] theorem deliver_y (s : State) : (deliver s).y = s.y := by unfold deliver; split <;> simp
@[simp] theorem deliver_sp (s : State) : (deliver s).sp = s.sp := by unfold deliver; split <;> simp
@[simp] theorem deliver_pc (s : State) : (deliver s).pc = s.pc := by unfold deliver; split <;> simp
@[simp] theorem deliver_p (s : State) : (deliver s).p = s.p := by unfold deliver; split <;> simp
@[simp] theorem deliver_run (s : State) : (deliver s).run = s.run := by unfold deliver; split <;> simp
@[simp] theorem deliver_budget (s : State) : (deliver s).budget = s.budget := by unfold deliver; split <;> simp
@[simp] theorem deliver_cpuMem (s : State) : (deliver s).cpuMem = s.cpuMem := by unfold deliver; split <;> simp
@[simp] theorem deliver_ppuMem (s : State) : (deliver s).ppuMem = s.ppuMem := by unfold deliver; split <;> simp
@[simp] theorem deliver_cart (s : State) : (deliver s).cart = s.cart := by unfold deliver; split <;> simp
@[simp] theorem deliver_config (s : State) : (deliver s).config = s.config := by unfold deliver; split <;> simp
@[simp] theorem deliver_draws (s : State) : (deliver s).draws = s.draws := by unfold deliver; split <;> simp

theorem deliver_hostEvents (s : State) : (deliver s).hostEvents = s.hostEvents.tail := by
  unfold deliver
  split <;> simp [*]

/-! ### The reset service -/

@[simp] theorem resetStack_a (s : State) : (resetStack s).a = s.a := by unfold resetStack; split <;> simp
@[simp] theorem resetStack_x (s : State) : (resetStack s).x = s.x := by unfold resetStack; split <;> simp
@[simp] theorem resetStack_y (s : State) : (resetStack s).y = s.y := by unfold resetStack; split <;> simp
@[simp] theorem resetStack_pc (s : State) : (resetStack s).pc = s.pc := by unfold resetStack; split <;> simp
@[simp] theorem resetStack_p (s : State) : (resetStack s).p = s.p := by unfold resetStack; split <;> simp
@[simp] theorem resetStack_run (s : State) : (resetStack s).run = s.run := by unfold resetStack; split <;> simp
@[simp] theorem resetStack_budget (s : State) : (resetStack s).budget = s.budget := by unfold resetStack; split <;> simp
@[simp] theorem resetStack_resetPending (s : State) : (resetStack s).resetPending = s.resetPending := by unfold resetStack; split <;> simp
@[simp] theorem resetStack_nmiPending (s : State) : (resetStack s).nmiPending = s.nmiPending := by unfold resetStack; split <;> simp
@[simp] theorem resetStack_irqLine (s : State) : (resetStack s).irqLine = s.irqLine := by unfold resetStack; split <;> simp
@[simp] theorem resetStack_ppuMem (s : State) : (resetStack s).ppuMem = s.ppuMem := by unfold resetStack; split <;> simp
@[simp] theorem resetStack_shim (s : State) : (resetStack s).shim = s.shim := by unfold resetStack; split <;> simp
@[simp] theorem resetStack_cart (s : State) : (resetStack s).cart = s.cart := by unfold resetStack; split <;> simp
@[simp] theorem resetStack_config (s : State) : (resetStack s).config = s.config := by unfold resetStack; split <;> simp
@[simp] theorem resetStack_draws (s : State) : (resetStack s).draws = s.draws := by unfold resetStack; split <;> simp
@[simp] theorem resetStack_hostEvents (s : State) : (resetStack s).hostEvents = s.hostEvents := by unfold resetStack; split <;> simp
@[simp] theorem resetStack_sp (s : State) : (resetStack s).sp = s.sp - 3 := by
  unfold resetStack
  split
  · simp only [push_sp, pushWord_sp]; bv_omega
  · simp

theorem resetStack_wf {s : State} (h : s.cpuMem.wf cpuMemSize = true) :
    (resetStack s).cpuMem.wf cpuMemSize = true := by
  unfold resetStack
  split
  · exact push_wf (pushWord_wf h)
  · exact h


end Sys2Proof.Machine
end

