-- ==== Sys2Proof/Laws/InstructionStep.lean ====
section
/-! SUPPORT. The instruction-level step: what the ticks after a boundary do, and that nothing but `deliver` looks at the script of
the other actors' events, so that the script can be taken apart from the machine. -/

namespace Sys2Proof.Machine

/-! ### Only `deliver` looks at the script: every operation commutes with replacing it -/

variable (h : List (List HostEvent))

@[simp] theorem setA_script (v : Byte) (s : State) : (s.setHostEvents h).setA v = (s.setA v).setHostEvents h := rfl
@[simp] theorem setX_script (v : Byte) (s : State) : (s.setHostEvents h).setX v = (s.setX v).setHostEvents h := rfl
@[simp] theorem setY_script (v : Byte) (s : State) : (s.setHostEvents h).setY v = (s.setY v).setHostEvents h := rfl
@[simp] theorem setSp_script (v : Byte) (s : State) : (s.setHostEvents h).setSp v = (s.setSp v).setHostEvents h := rfl
@[simp] theorem setPc_script (v : Addr) (s : State) : (s.setHostEvents h).setPc v = (s.setPc v).setHostEvents h := rfl
@[simp] theorem setP_script (v : Status) (s : State) : (s.setHostEvents h).setP v = (s.setP v).setHostEvents h := rfl
@[simp] theorem setRun_script (v : RunState) (s : State) : (s.setHostEvents h).setRun v = (s.setRun v).setHostEvents h := rfl
@[simp] theorem setBudget_script (v : Nat) (s : State) :
    (s.setHostEvents h).setBudget v = (s.setBudget v).setHostEvents h := rfl
@[simp] theorem setResetPending_script (v : Bool) (s : State) :
    (s.setHostEvents h).setResetPending v = (s.setResetPending v).setHostEvents h := rfl
@[simp] theorem setNmiPending_script (v : Bool) (s : State) :
    (s.setHostEvents h).setNmiPending v = (s.setNmiPending v).setHostEvents h := rfl
@[simp] theorem setShim_script (v : Shim) (s : State) : (s.setHostEvents h).setShim v = (s.setShim v).setHostEvents h := rfl
@[simp] theorem setCpuMem_script (v : Memory) (s : State) :
    (s.setHostEvents h).setCpuMem v = (s.setCpuMem v).setHostEvents h := rfl
@[simp] theorem setPpuMem_script (v : Memory) (s : State) :
    (s.setHostEvents h).setPpuMem v = (s.setPpuMem v).setHostEvents h := rfl
@[simp] theorem setDraws_script (v : Nat) (s : State) :
    (s.setHostEvents h).setDraws v = (s.setDraws v).setHostEvents h := rfl
@[simp] theorem setNZ_script (v : Byte) (s : State) : (s.setHostEvents h).setNZ v = (s.setNZ v).setHostEvents h := rfl
@[simp] theorem setC_script (v : Bool) (s : State) : (s.setHostEvents h).setC v = (s.setC v).setHostEvents h := rfl
@[simp] theorem setI_script (v : Bool) (s : State) : (s.setHostEvents h).setI v = (s.setI v).setHostEvents h := rfl
@[simp] theorem setD_script (v : Bool) (s : State) : (s.setHostEvents h).setD v = (s.setD v).setHostEvents h := rfl
@[simp] theorem setV_script (v : Bool) (s : State) : (s.setHostEvents h).setV v = (s.setV v).setHostEvents h := rfl
@[simp] theorem addToA_script (v : Byte) (s : State) : (s.setHostEvents h).addToA v = (s.addToA v).setHostEvents h := rfl
@[simp] theorem subFromA_script (v : Byte) (s : State) :
    (s.setHostEvents h).subFromA v = (s.subFromA v).setHostEvents h := rfl
@[simp] theorem setSum_script (r : AluResult) (s : State) :
    (s.setHostEvents h).setSum r = (s.setSum r).setHostEvents h := rfl
@[simp] theorem compare_script (r m : Byte) (s : State) :
    (s.setHostEvents h).compare r m = (s.compare r m).setHostEvents h := rfl
@[simp] theorem testBits_script (m : Byte) (s : State) :
    (s.setHostEvents h).testBits m = (s.testBits m).setHostEvents h := rfl

@[simp] theorem ppuRead_script (a : PpuAddr) (s : State) : ppuRead a (s.setHostEvents h) = ppuRead a s := rfl
@[simp] theorem ppuWrite_script (a : PpuAddr) (v : Byte) (s : State) :
    ppuWrite a v (s.setHostEvents h) = (ppuWrite a v s).setHostEvents h := by
  by_cases hc : (decide (a.toNat < 0x2000) && !s.config.chrWritable) = true <;> simp only [ppuWrite, State.setHostEvents_config, hc] <;> rfl
@[simp] theorem advanceVram_script (s : State) :
    advanceVram (s.setHostEvents h) = (advanceVram s).setHostEvents h := rfl

@[simp] theorem shimRead_script (r : ShimReg) (s : State) :
    shimRead r (s.setHostEvents h) = ((shimRead r s).1, (shimRead r s).2.setHostEvents h) := by
  cases r <;> try rfl
  by_cases hb : s.config.ppuReadBuffered = true <;> by_cases ha : s.shim.vramAddr.toNat < 0x3F00 <;>
    simp [shimRead, readVramData, hb, ha]

@[simp] theorem memRead_script (a : Addr) (s : State) :
    memRead a (s.setHostEvents h) = ((memRead a s).1, (memRead a s).2.setHostEvents h) := by
  unfold memRead; split <;> simp

@[simp] theorem shimWrite_script (r : ShimReg) (v : Byte) (s : State) :
    shimWrite r v (s.setHostEvents h) = (shimWrite r v s).setHostEvents h := by
  cases r <;> try rfl
  · cases hw : s.shim.w <;> simp [shimWrite, writeAddr, hw]
  · simp [shimWrite]

@[simp] theorem memWrite_script (a : Addr) (v : Byte) (s : State) :
    memWrite a v (s.setHostEvents h) = (memWrite a v s).setHostEvents h := by
  unfold memWrite
  split
  · simp
  · by_cases hr : (decide (0x8000 ≤ a.toNat) && !s.config.romWritable) = true <;>
      simp only [State.setHostEvents_config, hr] <;> rfl

@[simp] theorem readPair_script (a b : Addr) (s : State) :
    readPair a b (s.setHostEvents h) = ((readPair a b s).1, (readPair a b s).2.setHostEvents h) := by simp [readPair]
@[simp] theorem read16_script (a : Addr) (s : State) :
    read16 a (s.setHostEvents h) = ((read16 a s).1, (read16 a s).2.setHostEvents h) := by simp [read16]
@[simp] theorem read16Zp_script (z : Byte) (s : State) :
    read16Zp z (s.setHostEvents h) = ((read16Zp z s).1, (read16Zp z s).2.setHostEvents h) := by simp [read16Zp]
@[simp] theorem read16Bug_script (a : Addr) (s : State) :
    read16Bug a (s.setHostEvents h) = ((read16Bug a s).1, (read16Bug a s).2.setHostEvents h) := by simp [read16Bug]
@[simp] theorem push_script (v : Byte) (s : State) : push v (s.setHostEvents h) = (push v s).setHostEvents h := by
  simp [push]
@[simp] theorem pushWord_script (w : Addr) (s : State) :
    pushWord w (s.setHostEvents h) = (pushWord w s).setHostEvents h := by simp [pushWord]
@[simp] theorem pull_script (s : State) : pull (s.setHostEvents h) = ((pull s).1, (pull s).2.setHostEvents h) := by
  simp [pull]
@[simp] theorem pullWord_script (s : State) :
    pullWord (s.setHostEvents h) = ((pullWord s).1, (pullWord s).2.setHostEvents h) := by simp [pullWord]
@[simp] theorem jumpThrough_script (v : Addr) (s : State) :
    jumpThrough v (s.setHostEvents h) = (jumpThrough v s).setHostEvents h := by simp [jumpThrough]
@[simp] theorem interruptEntry_script (ret : Addr) (b : Bool) (v : Addr) (s : State) :
    interruptEntry ret b v (s.setHostEvents h) = (interruptEntry ret b v s).setHostEvents h := by simp [interruptEntry]
@[simp] theorem interruptReturn_script (s : State) :
    interruptReturn (s.setHostEvents h) = (interruptReturn s).setHostEvents h := by simp [interruptReturn]

@[simp] theorem effective_script (m : Addressing) (s : State) :
    effective m (s.setHostEvents h) =
      { effective m s with state := (effective m s).state.setHostEvents h } := by
  cases m <;> simp [effective, Effective.fixed, Effective.indexed]
@[simp] theorem resolveSource_script (o : Source) (s : State) :
    resolveSource o (s.setHostEvents h) =
      { resolveSource o s with state := (resolveSource o s).state.setHostEvents h } := by
  cases o <;> simp [resolveSource, resolveMem]
@[simp] theorem resolveTarget_script (t : Target) (s : State) :
    resolveTarget t (s.setHostEvents h) =
      { resolveTarget t s with state := (resolveTarget t s).state.setHostEvents h } := by
  cases t <;> simp [resolveTarget, resolveMem]
@[simp] theorem resolveJump_script (t : JumpTarget) (s : State) :
    resolveJump t (s.setHostEvents h) = ((resolveJump t s).1, (resolveJump t s).2.setHostEvents h) := by
  cases t <;> simp [resolveJump]
@[simp] theorem load_script (p : Place) (s : State) :
    load p (s.setHostEvents h) = ((load p s).1, (load p s).2.setHostEvents h) := by cases p <;> simp [load]
@[simp] theorem store_script (p : Place) (v : Byte) (s : State) :
    store p v (s.setHostEvents h) = (store p v s).setHostEvents h := by cases p <;> simp [store]
@[simp] theorem advance_script (i : Instr) (s : State) :
    advance i (s.setHostEvents h) = (advance i s).setHostEvents h := rfl
@[simp] theorem finish_script (i : Instr) (e : Nat) (s : State) :
    finish i e (s.setHostEvents h) = (finish i e s).setHostEvents h := rfl

theorem runImplied_script {i : Instr} {f : State → State} (hf : ∀ s : State, f (s.setHostEvents h) = (f s).setHostEvents h)
    (s : State) : runImplied i f (s.setHostEvents h) = (runImplied i f s).setHostEvents h := by
  simp [runImplied, hf]
theorem runRead_script {i : Instr} {o : Source} {f : Byte → State → State}
    (hf : ∀ v (s : State), f v (s.setHostEvents h) = (f v s).setHostEvents h) (s : State) :
    runRead i o f (s.setHostEvents h) = (runRead i o f s).setHostEvents h := by
  simp [runRead, hf]
theorem runStore_script {i : Instr} {m : Addressing} {f : State → Byte} (hf : ∀ s : State, f (s.setHostEvents h) = f s)
    (s : State) : runStore i m f (s.setHostEvents h) = (runStore i m f s).setHostEvents h := by
  simp [runStore, hf]
theorem runModify_script {i : Instr} {t : Target} {op : Byte → Bool → Byte × Bool} {f : Byte → Bool → State → State}
    (hf : ∀ v c (s : State), f v c (s.setHostEvents h) = (f v c s).setHostEvents h) (s : State) :
    runModify i t op f (s.setHostEvents h) = (runModify i t op f s).setHostEvents h := by
  simp [runModify, hf]
@[simp] theorem runBranch_script (i : Instr) (cond : Bool) (rel : Byte) (s : State) :
    runBranch i cond rel (s.setHostEvents h) = (runBranch i cond rel s).setHostEvents h := by
  cases cond <;> simp [runBranch]

/-- An instruction neither reads nor writes the script. -/
theorem exec_script (i : Instr) (s : State) :
    ∃ t, exec i s = .next t ∧ exec i (s.setHostEvents h) = .next (t.setHostEvents h) := by
  cases i
  case nopU op o => cases o <;> exact ⟨_, rfl, by simp [exec, execNopU, runImplied, runRead]⟩
  all_goals refine ⟨_, rfl, ?_⟩
  all_goals simp [exec, execLda, execLdx, execLdy, execSta, execStx, execSty, execTax, execTay, execTxa, execTya,
    execTsx, execTxs, execAdc, execSbc, execAnd, execOra, execEor, execCmp, execCpx, execCpy, execBit, execInc,
    execDec, execInx, execIny, execDex, execDey, execAsl, execLsr, execRol, execRor, execBpl, execBmi, execBvc,
    execBvs, execBcc, execBcs, execBne, execBeq, execJmp, execJsr, execRts, execPha, execPla, execPhp, execPlp,
    execClc, execSec, execCli, execSei, execCld, execSed, execClv, execNop, execBrk, execRti, execUndefined,
    execLax, execSax, execSbcU, execSlo, execRla, execSre, execRra, execDcp, execIsb, runImplied, runRead,
    runStore, runModify]

@[simp] theorem fetch_script (s : State) :
    fetch (s.setHostEvents h) = { fetch s with state := (fetch s).state.setHostEvents h } := by
  unfold fetch
  simp only [memRead_script, State.setHostEvents_pc, State.setHostEvents_config]
  split <;> [split; skip] <;> rfl
@[simp] theorem resetStack_script (s : State) : resetStack (s.setHostEvents h) = (resetStack s).setHostEvents h := by
  by_cases hp : s.config.resetPushes = true <;> simp [resetStack, hp]
@[simp] theorem serviceReset_script (s : State) :
    serviceReset (s.setHostEvents h) = (serviceReset s).setHostEvents h := by simp [serviceReset]
@[simp] theorem serviceNmi_script (s : State) :
    serviceNmi (s.setHostEvents h) = (serviceNmi s).setHostEvents h := by simp [serviceNmi]
@[simp] theorem serviceIrq_script (s : State) :
    serviceIrq (s.setHostEvents h) = (serviceIrq s).setHostEvents h := by simp [serviceIrq]

/-- A boundary answers a next state, and neither reads nor writes the script. -/
theorem boundary_script (s : State) :
    ∃ t, boundary s = .next t ∧ boundary (s.setHostEvents h) = .next (t.setHostEvents h) := by
  obtain ⟨t, h1, h2⟩ := exec_script h (fetch s).instr (fetch s).state
  unfold boundary executeOne
  simp only [State.setHostEvents_resetPending, State.setHostEvents_nmiPending, State.setHostEvents_irqLine,
    State.setHostEvents_p, serviceReset_script, serviceNmi_script, serviceIrq_script, fetch_script, setBudget_script, h1, h2]
  split
  · exact ⟨_, rfl, rfl⟩
  split
  · exact ⟨_, rfl, rfl⟩
  split <;> exact ⟨_, rfl, rfl⟩

/-- A tick answers a next state, and neither reads nor writes the script. -/
theorem tick_script (s : State) : ∃ t, tick s = .next t ∧ tick (s.setHostEvents h) = .next (t.setHostEvents h) := by
  unfold tick
  cases hr : s.run with
  | halted reason => exact ⟨s, rfl, by simp [hr]⟩
  | running =>
    by_cases hb : 0 < s.budget
    · exact ⟨_, by simp [hb]; rfl, by simp [hr, hb]⟩
    · obtain ⟨t, h1, h2⟩ := boundary_script h s
      exact ⟨t, by simpa [hb] using h1, by simpa [hr, hb] using h2⟩

/-! ### Events -/

@[simp] theorem applyEvents_nil (s : State) : applyEvents [] s = s := rfl

/-- The events of two batches, one after the other. -/
theorem applyEvents_append (es fs : List HostEvent) (s : State) :
    applyEvents (es ++ fs) s = applyEvents fs (applyEvents es s) := by
  induction es generalizing s with
  | nil => rfl
  | cons e es ih => exact ih (applyEvent e s)

@[simp] theorem applyEvents_script (es : List HostEvent) (s : State) :
    applyEvents es (s.setHostEvents h) = (applyEvents es s).setHostEvents h := by
  induction es generalizing s with
  | nil => rfl
  | cons e es ih =>
    have he : applyEvent e (s.setHostEvents h) = (applyEvent e s).setHostEvents h := by cases e <;> rfl
    simpa [applyEvents, he] using ih (applyEvent e s)

/-- No event depends on the budget. -/
@[simp] theorem applyEvents_setBudget (es : List HostEvent) (n : Nat) (s : State) :
    applyEvents es (s.setBudget n) = (applyEvents es s).setBudget n := by
  induction es generalizing s with
  | nil => rfl
  | cons e es ih =>
    have he : applyEvent e (s.setBudget n) = (applyEvent e s).setBudget n := by cases e <;> rfl
    simpa [applyEvents, he] using ih (applyEvent e s)

/-- What `deliver` does, whether or not a batch is left. -/
theorem deliver_eq (s : State) :
    deliver s = (applyEvents (s.hostEvents.headD []) s).setHostEvents s.hostEvents.tail := by
  unfold deliver
  split
  · cases s; simp_all [State.setHostEvents]
  · simp [*]

/-! ### The ticks after a boundary -/

/-- A tick that counts down: the events before it, and one tick less. -/
theorem step_countdown {s : State} {n : Nat} (hr : s.run = .running) (hn : s.budget = n + 1) :
    step s = .next ((deliver s).setBudget n) := by
  simp [step, tick, hr, hn]

/-- Counting down any budget: the events before those ticks happen, in order, and nothing else. -/
theorem runToBoundary_countdown (n : Nat) (s : State) (hr : s.run = .running) (hn : s.budget = n) :
    runToBoundary n s = .next
      (((applyEvents (s.hostEvents.take n).flatten s).setHostEvents (s.hostEvents.drop n)).setBudget 0) := by
  induction n generalizing s with
  | zero => cases s; simp_all [runToBoundary, State.setBudget, State.setHostEvents]
  | succ n ih =>
    have hd := ih ((deliver s).setBudget n) (by simpa using hr) rfl
    simp only [runToBoundary, hr, hn, step_countdown hr hn, hd, Nat.succ_ne_zero, if_false]
    cases he : s.hostEvents with
    | nil => simp [deliver_eq, he]
    | cons b bs => simp [deliver_eq, he, applyEvents_append]

/-- From a boundary that leaves a running engine: the events of the ticks that follow, and no budget. -/
theorem instructionStep_running {s b : State} (hs : step s = .next b) (hr : b.run = .running) :
    instructionStep s = .next
      (((applyEvents (b.hostEvents.take b.budget).flatten b).setHostEvents (b.hostEvents.drop b.budget)).setBudget 0) := by
  simp only [instructionStep, hs]
  exact runToBoundary_countdown b.budget b hr rfl

/-- A tick that leaves a halted engine is the whole step. -/
theorem instructionStep_halted {s b : State} {reason : Fault} (hs : step s = .next b) (hr : b.run = .halted reason) :
    instructionStep s = .next b := by
  simp only [instructionStep, hs]
  cases b.budget <;> simp [runToBoundary, hr]

end Sys2Proof.Machine
end

