-- ==== Sys2Proof/Laws/PerInstr.lean ====
section
/-! SUPPORT. The family EncodedLength, one lemma per constructor: an instruction is encoded in as many bytes as R101 and
R108 give its mode. -/

namespace Sys2Proof.Laws.EncodedLength

/-- The encoding is `1 + OPLEN(mode)` bytes long (R101, R108). -/
def Statement (i : Instr) : Prop := (encode i).length = i.length

theorem mem_bytes (m : Addressing) : m.bytes.length = m.mode.operandLength := by cases m <;> rfl
theorem source_bytes (o : Source) : o.bytes.length = o.mode.operandLength := by
  cases o with
  | imm b => rfl
  | mem m => exact mem_bytes m
theorem target_bytes (t : Target) : t.bytes.length = t.mode.operandLength := by
  cases t with
  | acc => rfl
  | mem m => exact mem_bytes m
theorem jump_bytes (t : JumpTarget) : t.bytes.length = t.mode.operandLength := by cases t <;> rfl
theorem nop_bytes (o : NopOperand) : o.bytes.length = o.mode.operandLength := by
  cases o with
  | mem m => exact mem_bytes m
  | _ => rfl

/-- One byte for the opcode, the rest for the operand. -/
theorem of_operand {i : Instr} (h : (operandBytes i).length = i.operandLength) : Statement i := by
  simp only [Statement, encode, Instr.length, List.length_cons, h, Nat.add_comm]

theorem lda (o : Source) : Statement (.lda o) := of_operand (source_bytes o)
theorem ldx (o : Source) : Statement (.ldx o) := of_operand (source_bytes o)
theorem ldy (o : Source) : Statement (.ldy o) := of_operand (source_bytes o)
theorem sta (m : Addressing) : Statement (.sta m) := of_operand (mem_bytes m)
theorem stx (m : Addressing) : Statement (.stx m) := of_operand (mem_bytes m)
theorem sty (m : Addressing) : Statement (.sty m) := of_operand (mem_bytes m)
theorem tax : Statement (.tax) := rfl
theorem tay : Statement (.tay) := rfl
theorem txa : Statement (.txa) := rfl
theorem tya : Statement (.tya) := rfl
theorem tsx : Statement (.tsx) := rfl
theorem txs : Statement (.txs) := rfl
theorem adc (o : Source) : Statement (.adc o) := of_operand (source_bytes o)
theorem sbc (o : Source) : Statement (.sbc o) := of_operand (source_bytes o)
theorem and (o : Source) : Statement (.and o) := of_operand (source_bytes o)
theorem ora (o : Source) : Statement (.ora o) := of_operand (source_bytes o)
theorem eor (o : Source) : Statement (.eor o) := of_operand (source_bytes o)
theorem cmp (o : Source) : Statement (.cmp o) := of_operand (source_bytes o)
theorem cpx (o : Source) : Statement (.cpx o) := of_operand (source_bytes o)
theorem cpy (o : Source) : Statement (.cpy o) := of_operand (source_bytes o)
theorem bit (m : Addressing) : Statement (.bit m) := of_operand (mem_bytes m)
theorem inc (m : Addressing) : Statement (.inc m) := of_operand (mem_bytes m)
theorem dec (m : Addressing) : Statement (.dec m) := of_operand (mem_bytes m)
theorem inx : Statement (.inx) := rfl
theorem iny : Statement (.iny) := rfl
theorem dex : Statement (.dex) := rfl
theorem dey : Statement (.dey) := rfl
theorem asl (t : Target) : Statement (.asl t) := of_operand (target_bytes t)
theorem lsr (t : Target) : Statement (.lsr t) := of_operand (target_bytes t)
theorem rol (t : Target) : Statement (.rol t) := of_operand (target_bytes t)
theorem ror (t : Target) : Statement (.ror t) := of_operand (target_bytes t)
theorem bpl (rel : Byte) : Statement (.bpl rel) := rfl
theorem bmi (rel : Byte) : Statement (.bmi rel) := rfl
theorem bvc (rel : Byte) : Statement (.bvc rel) := rfl
theorem bvs (rel : Byte) : Statement (.bvs rel) := rfl
theorem bcc (rel : Byte) : Statement (.bcc rel) := rfl
theorem bcs (rel : Byte) : Statement (.bcs rel) := rfl
theorem bne (rel : Byte) : Statement (.bne rel) := rfl
theorem beq (rel : Byte) : Statement (.beq rel) := rfl
theorem jmp (t : JumpTarget) : Statement (.jmp t) := of_operand (jump_bytes t)
theorem jsr (a : Addr) : Statement (.jsr a) := rfl
theorem rts : Statement (.rts) := rfl
theorem pha : Statement (.pha) := rfl
theorem pla : Statement (.pla) := rfl
theorem php : Statement (.php) := rfl
theorem plp : Statement (.plp) := rfl
theorem clc : Statement (.clc) := rfl
theorem sec : Statement (.sec) := rfl
theorem cli : Statement (.cli) := rfl
theorem sei : Statement (.sei) := rfl
theorem cld : Statement (.cld) := rfl
theorem sed : Statement (.sed) := rfl
theorem clv : Statement (.clv) := rfl
theorem nop : Statement (.nop) := rfl
theorem brk : Statement (.brk) := rfl
theorem rti : Statement (.rti) := rfl
theorem nopU (op : Byte) (o : NopOperand) : Statement (.nopU op o) := of_operand (nop_bytes o)
theorem lax (m : Addressing) : Statement (.lax m) := of_operand (mem_bytes m)
theorem sax (m : Addressing) : Statement (.sax m) := of_operand (mem_bytes m)
theorem sbcU (b : Byte) : Statement (.sbcU b) := rfl
theorem slo (m : Addressing) : Statement (.slo m) := of_operand (mem_bytes m)
theorem rla (m : Addressing) : Statement (.rla m) := of_operand (mem_bytes m)
theorem sre (m : Addressing) : Statement (.sre m) := of_operand (mem_bytes m)
theorem rra (m : Addressing) : Statement (.rra m) := of_operand (mem_bytes m)
theorem dcp (m : Addressing) : Statement (.dcp m) := of_operand (mem_bytes m)
theorem isb (m : Addressing) : Statement (.isb m) := of_operand (mem_bytes m)
theorem undefined (op : Byte) : Statement (.undefined op) := rfl

end Sys2Proof.Laws.EncodedLength
end

