-- ==== Sys2Proof/Tests/Slice0.lean ====
section
/-! SUPPORT. The model's own tests: ill-formed terms, decoding, one step of each instruction, and a witness of the
hypotheses of every statement. Expected words come from the Encoding lines of spec/; expected results from
spec/95_test_vectors.md, whose case is named in the section's title, except where a comment says otherwise. -/

namespace Sys2Proof.Tests

open Sys2Proof.Machine Sys2Proof.Claims

/-- The base state of L2: code at 0x0600, some cells of memory, SP = FD, P = 24, no request. -/
def start (code : List Byte) (cells : List (Nat × Byte)) : State :=
  { pc := 0x0600
    sp := 0xFD
    p := Status.pulled 0x24
    resetPending := false
    cpuMem := Memory.copy code 0x0600 (cells.foldl (fun m c => m.write c.1 c.2) []) }

/-- What one step leaves in some fields. -/
def got {α : Type} (f : State → α) (s : State) : Option α :=
  match step s with
  | .next t => some (f t)
  | .fault _ | .refused _ => none

/-! ### Ill-formed terms are refused, one for each check (R105, R106, R107) -/

theorem test_illformed_sources :
    [Instr.lda (.mem (.zpy 0)), .adc (.mem (.zpy 0)), .sbc (.mem (.zpy 0)), .and (.mem (.zpy 0)), .ora (.mem (.zpy 0)),
      .eor (.mem (.zpy 0)), .cmp (.mem (.zpy 0)), .ldx (.mem (.zpx 0)), .ldy (.mem (.zpy 0)), .cpx (.mem (.zpx 0)),
      .cpy (.mem (.abx 0))].all (fun i => !i.wellFormed) = true := by decide

theorem test_illformed_memory :
    [Instr.sta (.zpy 0), .stx (.zpx 0), .sty (.zpy 0), .bit (.zpx 0), .inc (.aby 0), .dec (.izx 0), .asl (.mem (.aby 0)),
      .lsr (.mem (.izx 0)), .rol (.mem (.izy 0)), .ror (.mem (.zpy 0))].all (fun i => !i.wellFormed) = true := by decide

theorem test_illformed_undocumented :
    [Instr.lax (.zpx 0), .lax (.abx 0), .sax (.izy 0), .slo (.zpy 0), .rla (.zpy 0), .sre (.zpy 0), .rra (.zpy 0),
      .dcp (.zpy 0), .isb (.zpy 0), .nopU 0x80 .imp, .nopU 0xEA .imp, .nopU 0x0C (.mem (.abx 0)), .undefined 0x00,
      .undefined 0xEB].all (fun i => !i.wellFormed) = true := by decide

/-! ### Decoding: a word of every constructor, written out from its Encoding line -/

/-- The instruction that the bytes decode to, if they are exactly its bytes. -/
def reads (bs : List Byte) (i : Instr) : Bool := decide (decode bs = .ok (i, []))

theorem test_decode_load_store :
    [reads [0xA9, 0x80] (.lda (.imm 0x80)), reads [0xA1, 0xFE] (.lda (.mem (.izx 0xFE))),
      reads [0xBE, 0xF0, 0x12] (.ldx (.mem (.aby 0x12F0))), reads [0xB4, 0x10] (.ldy (.mem (.zpx 0x10))),
      reads [0x9D, 0x34, 0x12] (.sta (.abx 0x1234)), reads [0x96, 0xFF] (.stx (.zpy 0xFF)),
      reads [0x8C, 0x34, 0x12] (.sty (.abs 0x1234)), reads [0xAA] .tax, reads [0xA8] .tay, reads [0x8A] .txa,
      reads [0x98] .tya, reads [0xBA] .tsx, reads [0x9A] .txs].all id = true := by decide

theorem test_decode_arithmetic :
    [reads [0x71, 0x40] (.adc (.mem (.izy 0x40))), reads [0xF9, 0x01, 0x02] (.sbc (.mem (.aby 0x0201))),
      reads [0x35, 0x07] (.and (.mem (.zpx 0x07))), reads [0x0D, 0x01, 0x02] (.ora (.mem (.abs 0x0201))),
      reads [0x41, 0x08] (.eor (.mem (.izx 0x08))), reads [0xDD, 0xF0, 0x12] (.cmp (.mem (.abx 0x12F0))),
      reads [0xE4, 0x09] (.cpx (.mem (.zp 0x09))), reads [0xC0, 0x0A] (.cpy (.imm 0x0A)), reads [0x24, 0x10] (.bit (.zp 0x10)),
      reads [0xFE, 0x00, 0x03] (.inc (.abx 0x0300)), reads [0xD6, 0x0B] (.dec (.zpx 0x0B)), reads [0xE8] .inx,
      reads [0xC8] .iny, reads [0xCA] .dex, reads [0x88] .dey].all id = true := by decide

theorem test_decode_shift :
    [reads [0x0A] (.asl .acc), reads [0x1E, 0xF0, 0x12] (.asl (.mem (.abx 0x12F0))), reads [0x46, 0x10] (.lsr (.mem (.zp 0x10))),
      reads [0x36, 0x10] (.rol (.mem (.zpx 0x10))), reads [0x6E, 0x34, 0x12] (.ror (.mem (.abs 0x1234)))].all id = true := by
  decide

theorem test_decode_control :
    [reads [0x10, 0xFE] (.bpl 0xFE), reads [0x30, 0x80] (.bmi 0x80), reads [0x50, 0x10] (.bvc 0x10),
      reads [0x70, 0x10] (.bvs 0x10), reads [0x90, 0x00] (.bcc 0x00), reads [0xB0, 0x10] (.bcs 0x10),
      reads [0xD0, 0xFC] (.bne 0xFC), reads [0xF0, 0x05] (.beq 0x05), reads [0x4C, 0x34, 0x12] (.jmp (.abs 0x1234)),
      reads [0x6C, 0xFF, 0x02] (.jmp (.ind 0x02FF)), reads [0x20, 0x34, 0x12] (.jsr 0x1234), reads [0x60] .rts].all id = true := by
  decide

theorem test_decode_stack_system :
    [reads [0x48] .pha, reads [0x68] .pla, reads [0x08] .php, reads [0x28] .plp, reads [0x18] .clc, reads [0x38] .sec,
      reads [0x58] .cli, reads [0x78] .sei, reads [0xD8] .cld, reads [0xF8] .sed, reads [0xB8] .clv, reads [0xEA] .nop,
      reads [0x00] .brk, reads [0x40] .rti].all id = true := by decide

theorem test_decode_undocumented :
    [reads [0x1A] (.nopU 0x1A .imp), reads [0x89, 0xFF] (.nopU 0x89 (.imm 0xFF)), reads [0x0C, 0x02, 0x20] (.nopU 0x0C (.mem (.abs 0x2002))),
      reads [0xB7, 0x01] (.lax (.zpy 0x01)), reads [0x97, 0x02] (.sax (.zpy 0x02)), reads [0xEB, 0x03] (.sbcU 0x03),
      reads [0x1B, 0x00, 0x03] (.slo (.aby 0x0300)), reads [0x37, 0x04] (.rla (.zpx 0x04)), reads [0x53, 0x05] (.sre (.izy 0x05)),
      reads [0x63, 0x06] (.rra (.izx 0x06)), reads [0xCF, 0x34, 0x12] (.dcp (.abs 0x1234)), reads [0xFF, 0x34, 0x12] (.isb (.abx 0x1234)),
      reads [0x02] (.undefined 0x02), reads [0xBB] (.undefined 0xBB)].all id = true := by decide

/-- The bytes of an instruction that are missing are an error of the decoder, by name. -/
theorem test_decode_truncated :
    [decode [], decode [0xAD, 0x00], decode [0xA9]].all (fun r => match r with | .ok _ => false | .error _ => true) = true := by decide

/-- The table's numbering: bits 15..8 are the second byte. -/
theorem test_table_word : decodeTableWord 24 0x0200BD = some (.lda (.mem (.abx 0x0200))) := by decide

/-- A placed word runs as the first instruction after reset. -/
theorem test_withFetchWord : got (fun t => (t.a, t.pc)) (State.reset.withFetchWord 16 0x80A9) = some (0x80, 0x0002) := by decide

/-! ### Loads, stores, transfers (L2.1, L2.2) -/

theorem test_lda_zpx_wraps :
    got (fun t => (t.a, t.p.byte, t.budget + 1)) { start [0xB5, 0xF0] [(0x0010, 0xAB)] with x := 0x20 } =
      some (0xAB, 0xA4, 4) := by decide

theorem test_lda_izx_pointer_wraps :
    got (fun t => (t.a, t.pc, t.budget + 1)) { start [0xA1, 0xFE] [(0x00FF, 0x34), (0x0000, 0x12), (0x1234, 0x5A)] with x := 0x01 } =
      some (0x5A, 0x0602, 6) := by decide

theorem test_ldx_zpy_wraps :
    got (fun t => (t.x, t.p.byte, t.budget + 1)) { start [0xB6, 0xFD] [(0x0002, 0x44)] with y := 0x05 } =
      some (0x44, 0x24, 4) := by decide

theorem test_ldx_abs :
    got (fun t => (t.x, t.pc, t.budget + 1)) (start [0xAE, 0x00, 0x03] [(0x0300, 0x7F)]) =
      some (0x7F, 0x0603, 4) := by decide

theorem test_ldy_zpx :
    got (fun t => (t.y, t.p.byte, t.budget + 1)) { start [0xB4, 0x10] [(0x0012, 0xFF)] with x := 0x02 } =
      some (0xFF, 0xA4, 4) := by decide

theorem test_sta_aby_has_no_penalty :
    got (fun t => (t.cpuMem.read 0x1310, t.pc, t.budget + 1)) { start [0x99, 0xF0, 0x12] [] with a := 0x77, y := 0x20 } =
      some (0x77, 0x0603, 5) := by decide

theorem test_sta_writes_no_flag :
    got (fun t => (t.cpuMem.read 0x0010, t.p.byte, t.budget + 1)) { start [0x85, 0x10] [] with p := Status.pulled 0xA5 } =
      some (0x00, 0xA5, 3) := by decide

theorem test_stx_zpy_wraps :
    got (fun t => (t.cpuMem.read 0x0000, t.p.byte, t.budget + 1)) { start [0x96, 0xFF] [] with x := 0x9C, y := 0x01 } =
      some (0x9C, 0x24, 4) := by decide

theorem test_sty_abs :
    got (fun t => (t.cpuMem.read 0x1234, t.pc, t.budget + 1)) { start [0x8C, 0x34, 0x12] [] with y := 0x3C } =
      some (0x3C, 0x0603, 4) := by decide

theorem test_tax_of_zero :
    got (fun t => (t.x, t.p.byte, t.budget + 1)) { start [0xAA] [] with x := 0x5A } =
      some (0x00, 0x26, 2) := by decide

theorem test_tay_of_negative :
    got (fun t => (t.y, t.p.byte, t.budget + 1)) { start [0xA8] [] with a := 0xF0 } =
      some (0xF0, 0xA4, 2) := by decide

theorem test_txa :
    got (fun t => (t.a, t.p.byte, t.budget + 1)) { start [0x8A] [] with x := 0x01 } =
      some (0x01, 0x24, 2) := by decide

theorem test_tya :
    got (fun t => (t.a, t.p.byte, t.budget + 1)) { start [0x98] [] with y := 0x80 } =
      some (0x80, 0xA4, 2) := by decide

theorem test_tsx_sets_n :
    got (fun t => (t.x, t.p.byte, t.budget + 1)) (start [0xBA] []) =
      some (0xFD, 0xA4, 2) := by decide

theorem test_txs_writes_no_flag :
    got (fun t => (t.sp, t.p.byte, t.budget + 1)) (start [0x9A] []) =
      some (0x00, 0x24, 2) := by decide

/-! ### Arithmetic, logic, compares (L2.3) -/

theorem test_adc_overflows :
    got (fun t => (t.a, t.p.byte)) { start [0x69, 0x01] [] with a := 0x7F } =
      some (0x80, 0xE4) := by decide

theorem test_adc_ignores_d :
    got (fun t => (t.a, t.p.byte)) { start [0x69, 0x01] [] with a := 0x09, p := Status.pulled 0x2C } =
      some (0x0A, 0x2C) := by decide

theorem test_sbc_overflows :
    got (fun t => (t.a, t.p.byte)) { start [0xE9, 0x01] [] with a := 0x80, p := Status.pulled 0x25 } =
      some (0x7F, 0x65) := by decide

theorem test_sbc_borrows :
    got (fun t => (t.a, t.p.byte)) { start [0xE9, 0x03] [] with a := 0x05 } =
      some (0x01, 0x25) := by decide

theorem test_and_of_disjoint :
    got (fun t => (t.a, t.p.byte)) { start [0x29, 0x0F] [] with a := 0xF0 } =
      some (0x00, 0x26) := by decide

theorem test_ora_sets_n :
    got (fun t => (t.a, t.p.byte)) { start [0x09, 0x01] [] with a := 0x80 } =
      some (0x81, 0xA4) := by decide

theorem test_eor_of_equal :
    got (fun t => (t.a, t.p.byte)) { start [0x49, 0xFF] [] with a := 0xFF } =
      some (0x00, 0x26) := by decide

theorem test_cmp_less :
    got (fun t => (t.a, t.p.byte)) { start [0xC9, 0x20] [] with a := 0x10 } =
      some (0x10, 0xA4) := by decide

theorem test_cmp_greater :
    got (fun t => (t.a, t.p.byte)) { start [0xC9, 0x10] [] with a := 0x90 } =
      some (0x90, 0xA5) := by decide

theorem test_cpx_less :
    got (fun t => (t.x, t.p.byte)) (start [0xE0, 0x01] []) =
      some (0x00, 0xA4) := by decide

theorem test_cpy_greater :
    got (fun t => (t.y, t.p.byte)) { start [0xC0, 0x00] [] with y := 0xFF } =
      some (0xFF, 0xA5) := by decide

theorem test_bit_flags :
    got (fun t => (t.a, t.p.byte, t.budget + 1)) { start [0x24, 0x10] [(0x0010, 0xC0)] with a := 0x0F } =
      some (0x0F, 0xE6, 3) := by decide

theorem test_inc_wraps :
    got (fun t => (t.cpuMem.read 0x0010, t.p.byte, t.budget + 1)) (start [0xE6, 0x10] [(0x0010, 0xFF)]) =
      some (0x00, 0x26, 5) := by decide

theorem test_dec_abx_wraps :
    got (fun t => (t.cpuMem.read 0x0301, t.p.byte, t.budget + 1)) { start [0xDE, 0x00, 0x03] [] with x := 0x01 } =
      some (0xFF, 0xA4, 7) := by decide

theorem test_inx_wraps :
    got (fun t => (t.x, t.p.byte, t.budget + 1)) { start [0xE8] [] with x := 0xFF } =
      some (0x00, 0x26, 2) := by decide

theorem test_iny_to_negative :
    got (fun t => (t.y, t.p.byte)) { start [0xC8] [] with y := 0x7F } =
      some (0x80, 0xA4) := by decide

theorem test_dex_to_zero :
    got (fun t => (t.x, t.p.byte)) { start [0xCA] [] with x := 0x01 } =
      some (0x00, 0x26) := by decide

theorem test_dey_wraps :
    got (fun t => (t.y, t.p.byte)) (start [0x88] []) =
      some (0xFF, 0xA4) := by decide

/-! ### Shifts (L2.4) -/

theorem test_asl_acc :
    got (fun t => (t.a, t.p.byte, t.budget + 1)) { start [0x0A] [] with a := 0x81 } =
      some (0x02, 0x25, 2) := by decide

theorem test_asl_abx_has_no_penalty :
    got (fun t => (t.cpuMem.read 0x1310, t.p.byte, t.budget + 1)) { start [0x1E, 0xF0, 0x12] [(0x1310, 0x01)] with x := 0x20 } =
      some (0x02, 0x24, 7) := by decide

theorem test_lsr_acc_of_one :
    got (fun t => (t.a, t.p.byte, t.budget + 1)) { start [0x4A] [] with a := 0x01 } =
      some (0x00, 0x27, 2) := by decide

theorem test_rol_acc_takes_carry :
    got (fun t => (t.a, t.p.byte, t.budget + 1)) { start [0x2A] [] with a := 0x40, p := Status.pulled 0x25 } =
      some (0x81, 0xA4, 2) := by decide

theorem test_ror_zp_takes_carry :
    got (fun t => (t.cpuMem.read 0x0010, t.p.byte, t.budget + 1)) { start [0x66, 0x10] [(0x0010, 0x02)] with p := Status.pulled 0x25 } =
      some (0x81, 0xA4, 5) := by decide

theorem test_ror_acc_of_one :
    got (fun t => (t.a, t.p.byte, t.budget + 1)) { start [0x6A] [] with a := 0x01 } =
      some (0x00, 0x27, 2) := by decide

/-! ### Control flow (L2.1, L2.5) -/

theorem test_bpl_to_itself :
    got (fun t => (t.pc, t.budget + 1)) (start [0x10, 0xFE] []) =
      some (0x0600, 3) := by decide

theorem test_bmi_crosses :
    got (fun t => (t.pc, t.budget + 1)) { start [0x30, 0x80] [] with p := Status.pulled 0xA4 } =
      some (0x0582, 4) := by decide

theorem test_bvc_taken :
    got (fun t => (t.pc, t.budget + 1)) (start [0x50, 0x10] []) =
      some (0x0612, 3) := by decide

theorem test_bvs_taken :
    got (fun t => (t.pc, t.budget + 1)) { start [0x70, 0x10] [] with p := Status.pulled 0x64 } =
      some (0x0612, 3) := by decide

theorem test_bcc_to_next :
    got (fun t => (t.pc, t.budget + 1)) (start [0x90, 0x00] []) =
      some (0x0602, 3) := by decide

theorem test_bcs_not_taken :
    got (fun t => (t.pc, t.budget + 1)) (start [0xB0, 0x10] []) =
      some (0x0602, 2) := by decide

theorem test_bne_backwards :
    got (fun t => (t.pc, t.budget + 1)) (start [0xD0, 0xFC] []) =
      some (0x05FE, 4) := by decide

theorem test_beq_not_taken :
    got (fun t => (t.pc, t.budget + 1)) (start [0xF0, 0x05] []) =
      some (0x0602, 2) := by decide

theorem test_beq_taken :
    got (fun t => (t.pc, t.budget + 1)) { start [0xF0, 0x05] [] with p := Status.pulled 0x26 } =
      some (0x0607, 3) := by decide

theorem test_jmp_abs :
    got (fun t => (t.pc, t.budget + 1)) (start [0x4C, 0x34, 0x12] []) =
      some (0x1234, 3) := by decide

theorem test_jmp_ind_wraps :
    got (fun t => (t.pc, t.budget + 1)) (start [0x6C, 0xFF, 0x02] [(0x02FF, 0x00), (0x0200, 0x02), (0x0300, 0x04)]) =
      some (0x0200, 5) := by decide

theorem test_jsr :
    got (fun t => (t.sp, t.cpuMem.read 0x01FD, t.cpuMem.read 0x01FC, t.pc, t.budget + 1)) (start [0x20, 0x34, 0x12] []) =
      some (0xFB, 0x06, 0x02, 0x1234, 6) := by decide

theorem test_rts :
    got (fun t => (t.sp, t.pc, t.budget + 1)) { start [0x60] [(0x01FC, 0x02), (0x01FD, 0x06)] with sp := 0xFB } =
      some (0xFD, 0x0603, 6) := by decide

theorem test_rts_wraps :
    got (fun t => (t.sp, t.pc, t.budget + 1)) { start [0x60] [(0x01FC, 0xFF), (0x01FD, 0xFF)] with sp := 0xFB } =
      some (0xFD, 0x0000, 6) := by decide

/-! ### Stack, flags, exceptions (L2.6) -/

theorem test_pha_wraps :
    got (fun t => (t.sp, t.cpuMem.read 0x0100, t.budget + 1)) { start [0x48] [] with a := 0x42, sp := 0x00 } =
      some (0xFF, 0x42, 3) := by decide

theorem test_pla_wraps :
    got (fun t => (t.a, t.sp, t.p.byte, t.budget + 1)) { start [0x68] [(0x0100, 0x80)] with sp := 0xFF } =
      some (0x80, 0x00, 0xA4, 4) := by decide

theorem test_php_sets_break_bit :
    got (fun t => (t.cpuMem.read 0x01FD, t.sp, t.p.byte, t.budget + 1)) (start [0x08] []) =
      some (0x34, 0xFC, 0x24, 3) := by decide

theorem test_plp_ignores_break_bit :
    got (fun t => (t.sp, t.p.byte, t.budget + 1)) { start [0x28] [(0x01FD, 0xFF)] with sp := 0xFC } =
      some (0xFD, 0xEF, 4) := by decide

theorem test_clc :
    got (fun t => (t.p.byte, t.budget + 1)) { start [0x18] [] with p := Status.pulled 0x25 } =
      some (0x24, 2) := by decide

theorem test_sec :
    got (fun t => t.p.byte) (start [0x38] []) =
      some 0x25 := by decide

theorem test_cli :
    got (fun t => t.p.byte) (start [0x58] []) =
      some 0x20 := by decide

theorem test_sei :
    got (fun t => t.p.byte) { start [0x78] [] with p := Status.pulled 0x20 } =
      some 0x24 := by decide

theorem test_cld :
    got (fun t => t.p.byte) { start [0xD8] [] with p := Status.pulled 0x2C } =
      some 0x24 := by decide

theorem test_sed :
    got (fun t => t.p.byte) (start [0xF8] []) =
      some 0x2C := by decide

theorem test_clv :
    got (fun t => t.p.byte) { start [0xB8] [] with p := Status.pulled 0x64 } =
      some 0x24 := by decide

theorem test_nop :
    got (fun t => (t.p.byte, t.pc, t.budget + 1)) (start [0xEA] []) =
      some (0x24, 0x0601, 2) := by decide

theorem test_brk :
    got (fun t => (t.sp, t.p.byte, t.pc, t.budget + 1)) { start [0x00, 0xAA] [(0xFFFE, 0x00), (0xFFFF, 0x80)] with p := Status.pulled 0x20 } =
      some (0xFA, 0x24, 0x8000, 7) := by decide

theorem test_brk_pushes :
    got (fun t => (t.cpuMem.read 0x01FD, t.cpuMem.read 0x01FC, t.cpuMem.read 0x01FB)) { start [0x00, 0xAA] [(0xFFFE, 0x00), (0xFFFF, 0x80)] with p := Status.pulled 0x20 } =
      some (0x06, 0x02, 0x30) := by decide

theorem test_rti :
    got (fun t => (t.sp, t.p.byte, t.pc, t.budget + 1)) { start [0x40] [(0x01FB, 0x20), (0x01FC, 0x02), (0x01FD, 0x06)] with sp := 0xFA } =
      some (0xFD, 0x20, 0x0602, 6) := by decide

/-! ### Undocumented instructions (L2.7) -/

theorem test_nopU_abx_crosses :
    got (fun t => (t.pc, t.budget + 1)) { start [0x1C, 0xFF, 0x02] [] with x := 0x01 } =
      some (0x0603, 5) := by decide

theorem test_lax_izy_crosses :
    got (fun t => (t.a, t.x, t.p.byte, t.budget + 1)) { start [0xB3, 0x10] [(0x0010, 0xFF), (0x0011, 0x02), (0x0300, 0x07)] with y := 0x01 } =
      some (0x07, 0x07, 0x24, 6) := by decide

theorem test_sax_zp :
    got (fun t => (t.cpuMem.read 0x0010, t.p.byte, t.budget + 1)) { start [0x87, 0x10] [] with a := 0xF0, x := 0x3C } =
      some (0x30, 0x24, 3) := by decide

theorem test_sbcU :
    got (fun t => (t.a, t.p.byte, t.budget + 1)) { start [0xEB, 0x01] [] with a := 0x10, p := Status.pulled 0x25 } =
      some (0x0F, 0x25, 2) := by decide

theorem test_slo_zp :
    got (fun t => (t.a, t.cpuMem.read 0x0010, t.p.byte, t.budget + 1)) { start [0x07, 0x10] [(0x0010, 0x81)] with a := 0x01 } =
      some (0x03, 0x02, 0x25, 5) := by decide

theorem test_rla_zp :
    got (fun t => (t.a, t.cpuMem.read 0x0010, t.p.byte, t.budget + 1)) { start [0x27, 0x10] [(0x0010, 0x80)] with a := 0xFF, p := Status.pulled 0x25 } =
      some (0x01, 0x01, 0x25, 5) := by decide

theorem test_sre_zp :
    got (fun t => (t.a, t.cpuMem.read 0x0010, t.p.byte, t.budget + 1)) { start [0x47, 0x10] [(0x0010, 0x03)] with a := 0x01 } =
      some (0x00, 0x01, 0x27, 5) := by decide

theorem test_rra_zp :
    got (fun t => (t.a, t.cpuMem.read 0x0010, t.p.byte, t.budget + 1)) { start [0x67, 0x10] [(0x0010, 0x03)] with a := 0x10 } =
      some (0x12, 0x01, 0x24, 5) := by decide

theorem test_dcp_zp :
    got (fun t => (t.a, t.cpuMem.read 0x0010, t.p.byte, t.budget + 1)) { start [0xC7, 0x10] [(0x0010, 0x41)] with a := 0x40 } =
      some (0x40, 0x40, 0x27, 5) := by decide

theorem test_dcp_aby_has_no_penalty :
    got (fun t => (t.cpuMem.read 0x1310, t.p.byte, t.budget + 1)) { start [0xDB, 0xF0, 0x12] [(0x1310, 0x01)] with y := 0x20 } =
      some (0x00, 0x27, 7) := by decide

theorem test_isb_zp :
    got (fun t => (t.a, t.cpuMem.read 0x0010, t.p.byte, t.budget + 1)) { start [0xE7, 0x10] [(0x0010, 0x0F)] with a := 0x10, p := Status.pulled 0x25 } =
      some (0x00, 0x10, 0x27, 5) := by decide

/-! ### Services, halts, the shim, the loader (L2.8, L2.9, L2.10, L1.7) -/

theorem test_nmi_while_masked :
    got (fun t => ((t.pc, t.sp, t.p.byte, t.nmiPending), t.cpuMem.read 0x01FD, t.cpuMem.read 0x01FC, t.cpuMem.read 0x01FB))
      { start [] [(0xFFFA, 0x00), (0xFFFB, 0x90)] with nmiPending := true } =
      some ((0x9000, 0xFA, 0x24, false), 0x06, 0x00, 0x24) := by decide

theorem test_irq_taken :
    got (fun t => (t.pc, t.sp, t.p.byte, t.cpuMem.read 0x01FB, t.budget + 1))
      { start [] [(0xFFFE, 0x00), (0xFFFF, 0xA0)] with irqLine := true, p := Status.pulled 0xA1 } =
      some (0xA000, 0xFA, 0xA5, 0xA1, 7) := by decide

theorem test_irq_masked :
    got (fun t => (t.pc, t.budget + 1)) { start [0xEA] [] with irqLine := true } = some (0x0601, 2) := by decide

theorem test_reset_pushing :
    got (fun t => ((t.pc, t.sp, t.p.byte, t.shim.ctrl), t.shim.w, t.cpuMem.read 0x01FD, t.cpuMem.read 0x01FB))
      { start [] [(0xFFFC, 0x00), (0xFFFD, 0x80)] with
        resetPending := true, p := Status.pulled 0xE1, shim := { ctrl := 0x84, w := true } } =
      some ((0x8000, 0xFA, 0xE5, 0x00), false, 0x06, 0xE1) := by decide

theorem test_reset_over_nmi :
    got (fun t => (t.pc, t.nmiPending))
      { start [] [(0xFFFC, 0x00), (0xFFFD, 0x80)] with resetPending := true, nmiPending := true } =
      some (0x8000, false) := by decide

theorem test_undefined_halts :
    got (fun t => (t.run, t.pc, t.p.byte)) (start [0x9E, 0x00, 0x03] []) =
      some (.halted (.undefinedInstruction 0x9E 0x0600), 0x0600, 0x24) := by decide

theorem test_nopU_reads_status :
    got (fun t => (t.shim.vblank, t.pc)) { start [0x0C, 0x02, 0x20] [] with shim := { vblank := true } } =
      some (false, 0x0603) := by decide

/-- R402: a load of another mapper is refused with its id; R403: too few bytes. -/
theorem test_loads_refused :
    loadRom ([0, 0, 0, 0, 1, 0, 0x10, 0] ++ List.replicate 8 0) State.reset = .fault (.mapperUnsupported 0x01) ∧
    loadRom ([0, 0, 0, 0, 1, 0, 0, 0] ++ List.replicate 8 0) State.reset = .fault (.imageUnsupported .length) := ⟨rfl, rfl⟩

/-! ### Witnesses: concrete states and operands that meet the hypotheses of each statement -/

theorem witness_DecodeInvertsEncode : (Instr.isb (.izy 0xFF)).wellFormed = true := by decide

theorem witness_EncodeInvertsDecode : decode [0x6C, 0xFF, 0x02, 0xEA] = .ok (.jmp (.ind 0x02FF), [0xEA]) := by decide

theorem witness_CostOfInstruction :
    (Instr.nopU 0xFC (.mem (.abx 0xFFFF))).wellFormed = true ∧ (Instr.nopU 0xFC (.mem (.abx 0xFFFF))).hasDescriptor = true ∧
    (Instr.bne 0x80).wellFormed = true ∧ (Instr.bne 0x80).hasDescriptor = true := by decide

/-- A halted engine, as R401 leaves it. -/
def haltedState : State := { start [0x02] [] with run := .halted (.undefinedInstruction 0x02 0x0600) }

theorem witness_TickRule :
    haltedState.run = .halted (.undefinedInstruction 0x02 0x0600) ∧
    ({ start [] [] with budget := 1 } : State).run = .running ∧ 0 < ({ start [] [] with budget := 1 } : State).budget ∧
    (start [] []).run = .running ∧ (start [] []).budget = 0 := by decide

/-- The state with an instruction at `pc`, three bytes long. -/
def codeAt (pc : Addr) : State := { start [] [(pc.toNat, 0xAD), (pc.toNat + 1, 0x34), (pc.toNat + 2, 0x12)] with pc := pc }

/-- All the hypotheses of the clause about plain storage. -/
def ReadyAt (pc : Addr) : Prop :=
  AtBoundary (deliver (codeAt pc)) ∧ NoRequest (deliver (codeAt pc)) ∧ OutsideWindow (deliver (codeAt pc)).pc 3 ∧
  decode (bytesAt (deliver (codeAt pc)) (deliver (codeAt pc)).pc 3) = .ok (.lda (.mem (.abs 0x1234)), []) ∧
  (Instr.lda (.mem (.abs 0x1234))).length = 3 ∧
  (Instr.lda (.mem (.abs 0x1234))).admitted (deliver (codeAt pc)).config.unofficial = true

/-- A PC in the window: 0x2000 reads 0x00, BRK; 0x2007 gives the read buffer as the opcode, its operand bytes lying above. -/
def inWindowAt (pc : Addr) (buffered : Byte) : State :=
  { start [] [(0x2008, 0x34), (0x2009, 0x12)] with pc := pc, shim := { readBuf := buffered } }

/-- The clause about plain storage at the base address and just below and just above the window; each of the others in the window,
for an instruction of one, two and three bytes. Each instruction is documented, so it is admitted. -/
theorem witness_StepRunsDecodedInstruction :
    (ReadyAt 0x0600 ∧ ReadyAt 0x1FFD ∧ ReadyAt 0x2008) ∧
    (AtBoundary (deliver (inWindowAt 0x2000 0)) ∧ NoRequest (deliver (inWindowAt 0x2000 0)) ∧
      decode [(memRead 0x2000 (inWindowAt 0x2000 0)).1] = .ok (.brk, []) ∧ Instr.brk.admitted true = true) ∧
    (AtBoundary (deliver (inWindowAt 0x2007 0xA9)) ∧ NoRequest (deliver (inWindowAt 0x2007 0xA9)) ∧
      (let op := memRead 0x2007 (inWindowAt 0x2007 0xA9)
       decode [op.1, (memRead 0x2008 op.2).1] = .ok (.lda (.imm 0x34), [])) ∧ (Instr.lda (.imm 0x34)).admitted true = true) ∧
    (AtBoundary (deliver (inWindowAt 0x2007 0xAD)) ∧ NoRequest (deliver (inWindowAt 0x2007 0xAD)) ∧
      (let op := memRead 0x2007 (inWindowAt 0x2007 0xAD)
       let b1 := memRead 0x2008 op.2
       decode [op.1, b1.1, (memRead 0x2009 b1.2).1] = .ok (.lda (.mem (.abs 0x1234)), []))) := by
  refine ⟨⟨⟨⟨rfl, rfl⟩, ⟨rfl, rfl, .inl rfl⟩, ?_, ?_, rfl, rfl⟩, ⟨⟨rfl, rfl⟩, ⟨rfl, rfl, .inl rfl⟩, ?_, ?_, rfl, rfl⟩,
    ⟨rfl, rfl⟩, ⟨rfl, rfl, .inl rfl⟩, ?_, ?_, rfl, rfl⟩, ⟨⟨rfl, rfl⟩, ⟨rfl, rfl, .inl rfl⟩, rfl, rfl⟩,
    ⟨⟨rfl, rfl⟩, ⟨rfl, rfl, .inl rfl⟩, rfl, rfl⟩, ⟨rfl, rfl⟩, ⟨rfl, rfl, .inl rfl⟩, rfl⟩
  all_goals first
    | decide
    | (intro k hk; obtain rfl | rfl | rfl : k = 0 ∨ k = 1 ∨ k = 2 := by omega) <;> rfl

/-- An undocumented opcode that the configuration does not admit. -/
def unadmitted : State := { start [0x1A] [] with config := { unofficial := false } }

theorem witness_UndefinedOpcodeHalts :
    (AtBoundary (deliver (start [0x02] [])) ∧ NoRequest (deliver (start [0x02] [])) ∧
      (instrOf (memRead 0x0600 (start [0x02] [])).1 0 0).admitted (start [0x02] []).config.unofficial = false) ∧
    (AtBoundary (deliver unadmitted) ∧ NoRequest (deliver unadmitted) ∧
      (instrOf (memRead 0x0600 unadmitted).1 0 0).admitted unadmitted.config.unofficial = false) ∧
    haltedState.run = .halted (.undefinedInstruction 0x02 0x0600) := by
  refine ⟨⟨⟨rfl, rfl⟩, ⟨rfl, rfl, .inl rfl⟩, ?_⟩, ⟨⟨rfl, rfl⟩, ⟨rfl, rfl, .inl rfl⟩, ?_⟩, rfl⟩ <;> decide

theorem witness_HaltOnlyByUnadmittedOpcode :
    (start [0x02] []).run = .running ∧
    got (fun t => t.run) (start [0x02] []) = some (.halted (.undefinedInstruction 0x02 0x0600)) := by decide

/-- Each way a boundary goes: reset over NMI, NMI over IRQ, IRQ, the masked IRQ, no request. -/
theorem witness_BoundaryPriority :
    (AtBoundary { start [] [] with resetPending := true, nmiPending := true } ∧
      AtBoundary { start [] [] with nmiPending := true, irqLine := true } ∧
      AtBoundary { start [] [] with irqLine := true, p := Status.pulled 0x20 } ∧
      AtBoundary { start [] [] with irqLine := true } ∧ AtBoundary (start [] [])) ∧
    ({ start [] [] with irqLine := true, p := Status.pulled 0x20 } : State).p.i = false ∧
    (start [] []).resetPending = false ∧ (start [] []).nmiPending = false ∧ (start [] []).irqLine = false ∧
    (start [] []).p.i = true :=
  ⟨⟨⟨rfl, rfl⟩, ⟨rfl, rfl⟩, ⟨rfl, rfl⟩, ⟨rfl, rfl⟩, ⟨rfl, rfl⟩⟩, by decide⟩

/-- A reset at a boundary, under both settings of `P_RESET_PUSHES`. -/
theorem witness_ResetService :
    (AtBoundary (deliver State.reset) ∧ (deliver State.reset).resetPending = true) ∧
    (AtBoundary (deliver { State.reset with config := { resetPushes := false } }) ∧
      (deliver { State.reset with config := { resetPushes := false } }).resetPending = true) :=
  ⟨⟨⟨rfl, rfl⟩, rfl⟩, ⟨⟨rfl, rfl⟩, rfl⟩⟩

theorem witness_InterruptEntries :
    (AtBoundary (deliver { start [] [] with nmiPending := true }) ∧
      (deliver { start [] [] with nmiPending := true }).resetPending = false ∧
      (deliver { start [] [] with nmiPending := true }).nmiPending = true) ∧
    (AtBoundary (deliver { start [] [] with irqLine := true, p := Status.pulled 0x20 }) ∧
      (deliver { start [] [] with irqLine := true, p := Status.pulled 0x20 }).p.i = false ∧
      (deliver { start [] [] with irqLine := true, p := Status.pulled 0x20 }).nmiPending = false) :=
  ⟨⟨⟨rfl, rfl⟩, rfl, rfl⟩, ⟨⟨rfl, rfl⟩, rfl, rfl⟩⟩

theorem witness_CountdownReachesBoundary :
    ({ start [] [] with budget := 7 } : State).run = .running ∧ 7 ≤ ({ start [] [] with budget := 7 } : State).budget := by
  decide

/-- An operand whose mode is in the list, and one whose mode is not. -/
def bothForms {α : Type} (mode : α → Mode) (listed unlisted : α) (codes : List (Mode × Byte)) : Bool :=
  codes.any (fun e => e.1 == mode listed) && codes.all (fun e => e.1 != mode unlisted)

/-- What `bothForms` says: each hypothesis of `HasForms` is met. -/
theorem bothForms_spec {α : Type} {mode : α → Mode} {o o' : α} {codes : List (Mode × Byte)}
    (h : bothForms mode o o' codes = true) : (∃ c, (mode o, c) ∈ codes) ∧ ∀ c, (mode o', c) ∉ codes := by
  simp only [bothForms, Bool.and_eq_true, List.any_eq_true, List.all_eq_true, beq_iff_eq, bne_iff_ne] at h
  obtain ⟨⟨⟨m, c⟩, hm, hc⟩, hn⟩ := h
  exact ⟨⟨c, by simpa [← hc] using hm⟩, fun c hc => hn _ hc rfl⟩

theorem witness_Loads :
    [bothForms Source.mode (.mem (.izy 0)) (.mem (.zpy 0)) (eightForms 0xA9 0xA5 0xB5 0xAD 0xBD 0xB9 0xA1 0xB1),
      bothForms Source.mode (.mem (.aby 0)) (.mem (.abx 0)) [(.imm, 0xA2), (.zp, 0xA6), (.zpy, 0xB6), (.abs, 0xAE), (.aby, 0xBE)],
      bothForms Source.mode (.mem (.abx 0)) (.mem (.aby 0))
        [(.imm, 0xA0), (.zp, 0xA4), (.zpx, 0xB4), (.abs, 0xAC), (.abx, 0xBC)]].all id = true := by decide

theorem witness_Stores :
    [bothForms Addressing.mode (.izy 0) (.zpy 0) (sevenForms 0x85 0x95 0x8D 0x9D 0x99 0x81 0x91),
      bothForms Addressing.mode (.zpy 0) (.zpx 0) [(.zp, 0x86), (.zpy, 0x96), (.abs, 0x8E)],
      bothForms Addressing.mode (.zpx 0) (.zpy 0) [(.zp, 0x84), (.zpx, 0x94), (.abs, 0x8C)]].all id = true := by decide

theorem witness_AddAndSubtract :
    [bothForms Source.mode (.imm 0) (.mem (.zpy 0)) (eightForms 0x69 0x65 0x75 0x6D 0x7D 0x79 0x61 0x71),
      bothForms Source.mode (.mem (.izx 0)) (.mem (.zpy 0))
        (eightForms 0xE9 0xE5 0xF5 0xED 0xFD 0xF9 0xE1 0xF1)].all id = true := by decide

theorem witness_LogicInstructions :
    [bothForms Source.mode (.imm 0) (.mem (.zpy 0)) (eightForms 0x29 0x25 0x35 0x2D 0x3D 0x39 0x21 0x31),
      bothForms Source.mode (.mem (.zp 0)) (.mem (.zpy 0)) (eightForms 0x09 0x05 0x15 0x0D 0x1D 0x19 0x01 0x11),
      bothForms Source.mode (.mem (.izx 0)) (.mem (.zpy 0))
        (eightForms 0x49 0x45 0x55 0x4D 0x5D 0x59 0x41 0x51)].all id = true := by decide

theorem witness_CompareAndBit :
    [bothForms Source.mode (.imm 0) (.mem (.zpy 0)) (eightForms 0xC9 0xC5 0xD5 0xCD 0xDD 0xD9 0xC1 0xD1),
      bothForms Source.mode (.mem (.abs 0)) (.mem (.zpx 0)) [(.imm, 0xE0), (.zp, 0xE4), (.abs, 0xEC)],
      bothForms Source.mode (.mem (.abs 0)) (.mem (.zpx 0)) [(.imm, 0xC0), (.zp, 0xC4), (.abs, 0xCC)],
      bothForms Addressing.mode (.abs 0) (.zpx 0) [(.zp, 0x24), (.abs, 0x2C)]].all id = true := by decide

theorem witness_IncrementDecrementMemory :
    [bothForms Addressing.mode (.abx 0) (.aby 0) [(.zp, 0xE6), (.zpx, 0xF6), (.abs, 0xEE), (.abx, 0xFE)],
      bothForms Addressing.mode (.abx 0) (.aby 0) [(.zp, 0xC6), (.zpx, 0xD6), (.abs, 0xCE), (.abx, 0xDE)]].all id = true := by
  decide

theorem witness_ShiftsAndRotates :
    [shiftForms 0x0A 0x06 0x16 0x0E 0x1E, shiftForms 0x4A 0x46 0x56 0x4E 0x5E, shiftForms 0x2A 0x26 0x36 0x2E 0x3E,
      shiftForms 0x6A 0x66 0x76 0x6E 0x7E].all (bothForms Target.mode .acc (.mem (.aby 0))) = true := by decide

/-- Each condition holds for some status and fails for another. -/
theorem witness_Branches :
    (Status.pulled 0xFF).n = true ∧ (Status.pulled 0xFF).v = true ∧ (Status.pulled 0xFF).c = true ∧ (Status.pulled 0xFF).z = true ∧
    (Status.pulled 0x00).n = false ∧ (Status.pulled 0x00).v = false ∧ (Status.pulled 0x00).c = false ∧
    (Status.pulled 0x00).z = false := by decide

/-- Each row of R331's list is a well-formed term. -/
theorem witness_UndocumentedNop :
    [Instr.nopU 0xFA .imp, .nopU 0xE2 (.imm 0), .nopU 0x64 (.mem (.zp 0)), .nopU 0xF4 (.mem (.zpx 0)),
      .nopU 0x0C (.mem (.abs 0)), .nopU 0xFC (.mem (.abx 0))].all (·.wellFormed) = true := by decide

theorem witness_LoadAndStoreBoth :
    [bothForms Addressing.mode (.zpy 0) (.zpx 0) [(.zp, 0xA7), (.zpy, 0xB7), (.abs, 0xAF), (.aby, 0xBF), (.izx, 0xA3), (.izy, 0xB3)],
      bothForms Addressing.mode (.izx 0) (.izy 0) [(.zp, 0x87), (.zpy, 0x97), (.abs, 0x8F), (.izx, 0x83)]].all id = true := by
  decide

theorem witness_ModifyCombinations :
    [sevenForms 0x07 0x17 0x0F 0x1F 0x1B 0x03 0x13, sevenForms 0x27 0x37 0x2F 0x3F 0x3B 0x23 0x33,
      sevenForms 0x47 0x57 0x4F 0x5F 0x5B 0x43 0x53, sevenForms 0x67 0x77 0x6F 0x7F 0x7B 0x63 0x73,
      sevenForms 0xC7 0xD7 0xCF 0xDF 0xDB 0xC3 0xD3, sevenForms 0xE7 0xF7 0xEF 0xFF 0xFB 0xE3 0xF3].all
        (bothForms Addressing.mode (.izy 0) (.zpy 0)) = true := by decide

/-- Where program-ROM does not take writes. -/
def romProtected : State := { start [] [] with config := { romWritable := false } }

/-- The clauses at their boundaries: 1FFF and 2008 beside the window, 2000 and 2007 in it, 7FFF and 8000 at the edge of the
program-ROM, each setting of `P_ROM_WRITABLE`. -/
theorem witness_BusArbiter :
    ([0x0000#16, 0x1FFF, 0x2008, 0x7FFF].all fun a =>
      !decide (0x2000 ≤ a.toNat ∧ a.toNat ≤ 0x2007) && decide (a.toNat < 0x8000) && (shimReg a).isNone) = true ∧
    ([0x8000#16, 0xFFFF].all fun a => !decide (0x2000 ≤ a.toNat ∧ a.toNat ≤ 0x2007) && decide (0x8000 ≤ a.toNat)) = true ∧
    romProtected.config.romWritable = false ∧ (start [] []).config.romWritable = true ∧
    shimReg 0x2000 = some .ctrl ∧ shimReg 0x2007 = some .data := by decide

theorem witness_ReadAfterWrite :
    (start [0xEA] []).cpuMem.wf cpuMemSize = true ∧ romProtected.cpuMem.wf cpuMemSize = true ∧
    shimReg 0x1FFF = none ∧ shimReg 0x2008 = none ∧ shimReg 0x7FFF = none ∧ shimReg 0x8000 = none ∧
    (start [0xEA] []).config.romWritable = true := by decide

theorem witness_ControlAndMask :
    let s : State := { start [] [] with shim := { vblank := true } }
    (s.config.nmiOnEnable = true ∧ s.shim.vblank = true ∧ s.shim.ctrl.getLsbD 7 = false ∧ (0x80 : Byte).getLsbD 7 = true) ∧
    ¬(s.config.nmiOnEnable = true ∧ s.shim.vblank = true ∧ s.shim.ctrl.getLsbD 7 = false ∧ (0x7F : Byte).getLsbD 7 = true) := by
  decide

theorem witness_OamScrollAddress :
    (start [] []).shim.w = false ∧ ({ start [] [] with shim := { w := true } } : State).shim.w = true := by decide

/-- The state with the VRAM pointer at `a`. -/
def pointerAt (a : PpuAddr) (cfg : Config) : State := { start [] [] with shim := { vramAddr := a }, config := cfg }

theorem witness_DataRegister :
    0x2000 ≤ (pointerAt 0x2000 { chrWritable := false }).shim.vramAddr.toNat ∧
    (pointerAt 0x1FFF {}).config.chrWritable = true ∧
    (pointerAt 0x1FFF { chrWritable := false }).shim.vramAddr.toNat < 0x2000 ∧
    (pointerAt 0x1FFF { chrWritable := false }).config.chrWritable = false ∧
    (pointerAt 0x3EFF {}).config.ppuReadBuffered = true ∧ (pointerAt 0x3EFF {}).shim.vramAddr.toNat < 0x3F00 ∧
    (pointerAt 0x3F00 {}).config.ppuReadBuffered = true ∧ 0x3F00 ≤ (pointerAt 0x3F00 {}).shim.vramAddr.toNat ∧
    (pointerAt 0x3FFF { ppuReadBuffered := false }).config.ppuReadBuffered = false := by decide

theorem witness_DirectModes :
    ([Instr.ldx (.mem (.zpy 0xFF)), .stx (.zpy 0xFF), .lax (.zpy 0xFF), .sax (.zpy 0xFF)].all fun i =>
      i.wellFormed && ((memoryUse i).map (·.1) == some (.zpy 0xFF))) = true := by decide

theorem witness_RegisterWriters :
    writesA (.ldx (.imm 0)) = false ∧ writesX (.lda (.imm 0)) = false ∧ writesY .tax = false ∧ writesA (.asl (.mem (.zp 0))) = false := by
  decide

theorem witness_PointerWriters : writesSp .tsx = false ∧ setsPc .txs = false ∧ setsPc .pla = false := by decide

theorem witness_FlagWriters :
    writesC (.inc (.zp 0)) = false ∧ writesNZ .txs = false ∧ writesI .php = false ∧ writesD .brk = false ∧
    writesV (.cmp (.imm 0)) = false := by decide

theorem witness_DecimalInert :
    writesD (.adc (.imm 0x01)) = false ∧ Instr.adc (.imm 0x01) ≠ .php ∧ Instr.adc (.imm 0x01) ≠ .brk ∧
    ∃ t, exec (.adc (.imm 0x01)) { start [] [] with p := Status.pulled 0x2C } = .next t :=
  ⟨by decide, by decide, by decide, _, rfl⟩

theorem witness_NonStoringFrame :
    (pushes .rti = 0 ∧ (∀ m use, memoryUse .rti = some (m, use) → use = .reads) ∧ ∃ t, exec .rti (start [] []) = .next t) ∧
    (pushes (.nopU 0x0C (.mem (.abs 0x2007))) = 0 ∧
      (∀ m use, memoryUse (.nopU 0x0C (.mem (.abs 0x2007))) = some (m, use) → use = .reads) ∧
      ∃ t, exec (.nopU 0x0C (.mem (.abs 0x2007))) (start [] []) = .next t) := by
  refine ⟨⟨rfl, ?_, _, rfl⟩, rfl, ?_, _, rfl⟩
  · intro m use h; cases h
  · intro m use h; cases h; rfl

/-- A store to the window's last register and one beside the window; a modify. -/
theorem witness_StoringFrame :
    (memoryUse (.sta (.abs 0x2007)) = some (.abs 0x2007, .stores) ∧ ∃ t, exec (.sta (.abs 0x2007)) (start [] []) = .next t) ∧
    (memoryUse (.inc (.abs 0x2008)) = some (.abs 0x2008, .modifies) ∧ ∃ t, exec (.inc (.abs 0x2008)) (start [] []) = .next t) ∧
    Use.stores ≠ .reads ∧ Use.modifies ≠ .reads :=
  ⟨⟨rfl, _, rfl⟩, ⟨rfl, _, rfl⟩, by decide, by decide⟩

/-- Each number of bytes pushed, with SP at the end where it wraps. -/
theorem witness_PushingFrame :
    (0 < pushes .pha ∧ ∃ t, exec .pha { start [] [] with sp := 0x00 } = .next t) ∧
    (0 < pushes (.jsr 0x1234) ∧ ∃ t, exec (.jsr 0x1234) { start [] [] with sp := 0x00 } = .next t) ∧
    (0 < pushes .brk ∧ ∃ t, exec .brk { start [] [] with sp := 0x01 } = .next t) :=
  ⟨⟨by decide, _, rfl⟩, ⟨by decide, _, rfl⟩, ⟨by decide, _, rfl⟩⟩

/-- A data access beside the window, and a pointer whose wrapped second byte stays out of it. -/
theorem witness_DeviceFrame :
    (∃ t, exec (.sta (.abs 0x2008)) (start [] []) = .next t) ∧ (Instr.sta (.abs 0x2008)).hasDescriptor = true ∧
    shimReg (effective (.abs 0x2008) (start [] [])).ea = none ∧
    (∃ t, exec (.jmp (.ind 0x20FF)) (start [] []) = .next t) ∧ shimReg 0x20FF = none ∧
    shimReg (word (loByte 0x1FFF + 1) (hiByte 0x1FFF)) = none :=
  ⟨⟨_, rfl⟩, rfl, rfl, ⟨_, rfl⟩, rfl, rfl⟩

/-- A running state and a halted one that meet the invariant, and their steps. -/
theorem witness_StepKeepsInvariant :
    (Inv { start [0xEA] [] with budget := 7 } ∧ ∃ t, step { start [0xEA] [] with budget := 7 } = .next t) ∧
    (Inv (start [0x48] []) ∧ ∃ t, step (start [0x48] []) = .next t) ∧ (Inv haltedState ∧ ∃ t, step haltedState = .next t) := by
  refine ⟨⟨⟨by decide, by decide, by decide, by decide, ?_⟩, _, rfl⟩, ⟨⟨by decide, by decide, by decide, by decide, ?_⟩, _, rfl⟩,
    ⟨by decide, by decide, by decide, by decide, ?_⟩, _, rfl⟩
  · intro r h; cases h
  · intro r h; cases h
  · intro r h; cases h; exact ⟨0x02, rfl, by decide, rfl⟩

theorem witness_StackRoundTrips : ({ start [0x48] [] with sp := 0x00 } : State).cpuMem.wf cpuMemSize = true := by decide

theorem witness_HostEvents :
    ({ start [] [] with hostEvents := [[.vblankStart]], shim := { ctrl := 0x80 } } : State).shim.ctrl.getLsbD 7 = true ∧
    ({ start [] [] with hostEvents := [[.vblankStart]] } : State).shim.ctrl.getLsbD 7 = false ∧
    ({ start [] [] with hostEvents := [[.vblankEnd], []] } : State).hostEvents = [.vblankEnd] :: [[]] ∧
    ({ start [] [] with hostEvents := [[.irqLevel true]] } : State).hostEvents = [.irqLevel true] :: [] ∧
    (({ start [] [] with hostEvents := [[.resetRequest]] } : State).hostEvents = [.resetRequest] :: [] ∧
      ({ start [] [] with hostEvents := [[.resetRequest]] } : State).run = .running) ∧
    ({ haltedState with hostEvents := [[.resetRequest]] } : State).run = .halted (.undefinedInstruction 0x02 0x0600) ∧
    (start [] []).hostEvents = [] := by decide

/-- A header with the given bank counts and mapper bytes, and nothing after it. -/
def header (prg chr low high : Byte) : List Byte := [0x4E, 0x45, 0x53, 0x1A, prg, chr, low, high, 0, 0, 0, 0, 0, 0, 0, 0]

/-- The clauses at their boundaries: the smallest mapper id that is not 0, the bank counts next to the admitted ones, an image of
exactly the needed length and one with nothing after its header. -/
theorem witness_LoadChecks :
    ((header 1 0 0x10 0x00).getD 7 0 &&& 0xF0) ||| ((header 1 0 0x10 0x00).getD 6 0 >>> 4) = 0x01 ∧
    ((header 3 2 0x0F 0x0F).getD 7 0 &&& 0xF0) ||| ((header 3 2 0x0F 0x0F).getD 6 0 >>> 4) = 0x00 ∧
    (16 ≤ (header 3 2 0x0F 0x0F).length ∧ ¬((3 = 1 ∨ 3 = 2) ∧ (2 = 0 ∨ 2 = 1)) ∧
      ¬16 + 16384 * 3 + 8192 * 2 ≤ (header 3 2 0x0F 0x0F).length) ∧
    (16 + 16384 * 0 + 8192 * 0 ≤ (header 0 0 0x0F 0x0F).length ∧ ¬((0 = 1 ∨ 0 = 2) ∧ (0 = 0 ∨ 0 = 1))) ∧
    ((1 = 1 ∨ 1 = 2) ∧ (0 = 0 ∨ 0 = 1) ∧ ¬16 + 16384 * 1 + 8192 * 0 ≤ (header 1 0 0x0F 0x0F).length) ∧
    (header 1 0 0x0F 0x0F ++ List.replicate 16384 0xFF).length = 16 + 16384 * 1 + 8192 * 0 := by
  refine ⟨by decide, by decide, by decide, by decide, by decide, ?_⟩
  rw [List.length_append, List.length_replicate]
  rfl

/-- An image loads whenever its counts are admitted and it is long enough. -/
theorem loadRom_loads (image : List Byte) (s : State) (hid : mapperIdOf image = 0)
    (hp : headerByte image 4 = 1 ∨ headerByte image 4 = 2) (hc : headerByte image 5 = 0 ∨ headerByte image 5 = 1)
    (hl : (parseHeader image).neededLength ≤ image.length) : ∃ t, loadRom image s = .next t := by
  have h : loadError (parseHeader image) = none := by
    unfold loadError
    have h1 : ¬(parseHeader image).mapperId ≠ 0 := by simpa [parseHeader] using hid
    have h2 : ¬((!((parseHeader image).prgBanks == 1 || (parseHeader image).prgBanks == 2) ||
        !((parseHeader image).chrBanks == 0 || (parseHeader image).chrBanks == 1)) = true) := by
      rcases hp with hp | hp <;> rcases hc with hc | hc <;> simp [parseHeader, hp, hc]
    have h3 : ¬((parseHeader image).image.length < (parseHeader image).neededLength) := by
      simpa [parseHeader, Nat.not_lt] using hl
    rw [if_neg h1, if_neg h2, if_neg h3]
  unfold loadRom
  simp only [h]
  exact ⟨_, rfl⟩

/-- One and two program banks, without and with a pattern bank, each loads into the state after reset. -/
theorem witness_Projections :
    State.reset.cpuMem.wf cpuMemSize = true ∧ State.reset.ppuMem.wf ppuMemSize = true ∧
    (∃ t, loadRom (header 1 0 0 0 ++ List.replicate 16384 0xFF) State.reset = .next t) ∧
    (∃ t, loadRom (header 2 1 0 0 ++ List.replicate 40960 0xFF) State.reset = .next t) := by
  refine ⟨by decide, by decide, loadRom_loads _ _ ?_ ?_ ?_ ?_, loadRom_loads _ _ ?_ ?_ ?_ ?_⟩
  · rfl
  · exact .inl rfl
  · exact .inl rfl
  · rw [List.length_append, List.length_replicate]; decide
  · rfl
  · exact .inr rfl
  · exact .inr rfl
  · rw [List.length_append, List.length_replicate]; decide

/-- A boundary whose instruction takes several ticks, with events before it, between its ticks and after them; one that halts. -/
theorem witness_InstructionStep :
    AtBoundary { start [0xB5, 0xF0] [] with hostEvents := [[], [.vblankStart], [.irqLevel true], [], [.vblankEnd]] } ∧
    AtBoundary (start [0x02] []) := ⟨⟨rfl, rfl⟩, rfl, rfl⟩

theorem witness_BoundariesAdmitTickRuns :
    ({ start [0xB5, 0xF0] [] with hostEvents := [[.vblankStart], [.vblankEnd]] } : State).budget = 0 ∧ haltedState.budget = 0 := by
  decide

/-- L2.1, "ABX crosses a page: +1", cost 5, as one instruction-level step: it ends at the next boundary, with the five batches of
events gone and the event of the second tick in effect. -/
theorem test_instructionStep :
    (match instructionStep
        { start [0xBD, 0xF0, 0x12] [(0x1310, 0x01)] with x := 0x20, hostEvents := [[], [.vblankStart], [], [], [], []] } with
     | .next t => some (t.a, t.pc, t.budget, t.hostEvents.length, t.shim.vblank)
     | .fault _ | .refused _ => none) = some (0x01, 0x0603, 0, 1, true) := by decide

end Sys2Proof.Tests
end

namespace Sys2Proof.Machine

/-! ### The courses of R133: what an instruction does is one of seven courses with an effect of its own -/

/-- The course that an instruction takes once its bytes are fetched, with the effect that tells it from the others of
the same course. -/
inductive Course where
  | implied (effect : State → State)
  | read (o : Source) (effect : Byte → State → State)
  | store (m : Addressing) (value : State → Byte)
  | modify (t : Target) (op : Byte → Bool → Byte × Bool) (effect : Byte → Bool → State → State)
  | branch (cond : Status → Bool) (rel : Byte)
  | jump (t : JumpTarget)
  | halt (op : Byte)

/-- The state a course leaves. -/
def Course.run (c : Course) (i : Instr) (s : State) : State :=
  match c with
  | .implied effect => runImplied i effect s
  | .read o effect => runRead i o effect s
  | .store m value => runStore i m value s
  | .modify t op effect => runModify i t op effect s
  | .branch cond rel => runBranch i (cond s.p) rel s
  | .jump t => finish i 0 ((advance i (resolveJump t s).2).setPc (resolveJump t s).1)
  | .halt op => s.setRun (.halted (.undefinedInstruction op s.pc))

/-- The course of an undocumented NOP (R331): it discards what it reads. -/
def nopCourse : NopOperand → Course
  | .imp => .implied id
  | .imm b => .read (.imm b) fun _ t => t
  | .mem m => .read (.mem m) fun _ t => t

/-- The course of each instruction; `exec_eq_course` ties it to `exec`. -/
def courseOf : Instr → Course
  | .lda o => .read o fun v t => (t.setA v).setNZ v
  | .ldx o => .read o fun v t => (t.setX v).setNZ v
  | .ldy o => .read o fun v t => (t.setY v).setNZ v
  | .sta m => .store m State.a
  | .stx m => .store m State.x
  | .sty m => .store m State.y
  | .tax => .implied fun t => (t.setX t.a).setNZ t.a
  | .tay => .implied fun t => (t.setY t.a).setNZ t.a
  | .txa => .implied fun t => (t.setA t.x).setNZ t.x
  | .tya => .implied fun t => (t.setA t.y).setNZ t.y
  | .tsx => .implied fun t => (t.setX t.sp).setNZ t.sp
  | .txs => .implied fun t => t.setSp t.x
  | .adc o => .read o State.addToA
  | .sbc o => .read o State.subFromA
  | .and o => .read o fun v t => (t.setA (t.a &&& v)).setNZ (t.a &&& v)
  | .ora o => .read o fun v t => (t.setA (t.a ||| v)).setNZ (t.a ||| v)
  | .eor o => .read o fun v t => (t.setA (t.a ^^^ v)).setNZ (t.a ^^^ v)
  | .cmp o => .read o fun v t => t.compare t.a v
  | .cpx o => .read o fun v t => t.compare t.x v
  | .cpy o => .read o fun v t => t.compare t.y v
  | .bit m => .read (.mem m) State.testBits
  | .inc m => .modify (.mem m) increment fun r _ t => t.setNZ r
  | .dec m => .modify (.mem m) decrement fun r _ t => t.setNZ r
  | .inx => .implied fun t => (t.setX (t.x + 1)).setNZ (t.x + 1)
  | .iny => .implied fun t => (t.setY (t.y + 1)).setNZ (t.y + 1)
  | .dex => .implied fun t => (t.setX (t.x - 1)).setNZ (t.x - 1)
  | .dey => .implied fun t => (t.setY (t.y - 1)).setNZ (t.y - 1)
  | .asl t => .modify t shiftLeft fun r c u => (u.setC c).setNZ r
  | .lsr t => .modify t shiftRight fun r c u => (u.setC c).setNZ r
  | .rol t => .modify t rotateLeft fun r c u => (u.setC c).setNZ r
  | .ror t => .modify t rotateRight fun r c u => (u.setC c).setNZ r
  | .bpl rel => .branch (fun p => !p.n) rel
  | .bmi rel => .branch (fun p => p.n) rel
  | .bvc rel => .branch (fun p => !p.v) rel
  | .bvs rel => .branch (fun p => p.v) rel
  | .bcc rel => .branch (fun p => !p.c) rel
  | .bcs rel => .branch (fun p => p.c) rel
  | .bne rel => .branch (fun p => !p.z) rel
  | .beq rel => .branch (fun p => p.z) rel
  | .jmp t => .jump t
  | .jsr a => .implied fun t => (pushWord (t.pc - 1) t).setPc a
  | .rts => .implied fun t => (pullWord t).2.setPc ((pullWord t).1 + 1)
  | .pha => .implied fun t => push t.a t
  | .pla => .implied fun t => ((pull t).2.setA (pull t).1).setNZ (pull t).1
  | .php => .implied fun t => push (t.p.pushed true) t
  | .plp => .implied fun t => (pull t).2.setP (Status.pulled (pull t).1)
  | .clc => .implied (State.setC false)
  | .sec => .implied (State.setC true)
  | .cli => .implied (State.setI false)
  | .sei => .implied (State.setI true)
  | .cld => .implied (State.setD false)
  | .sed => .implied (State.setD true)
  | .clv => .implied (State.setV false)
  | .nop => .implied id
  | .brk => .implied fun t => interruptEntry (t.pc + 1) true irqVector t
  | .rti => .implied interruptReturn
  | .nopU _ o => nopCourse o
  | .lax m => .read (.mem m) fun v t => ((t.setA v).setX v).setNZ v
  | .sax m => .store m fun t => t.a &&& t.x
  | .sbcU b => .read (.imm b) State.subFromA
  | .slo m => .modify (.mem m) shiftLeft fun r c t => ((t.setC c).setA (t.a ||| r)).setNZ (t.a ||| r)
  | .rla m => .modify (.mem m) rotateLeft fun r c t => ((t.setC c).setA (t.a &&& r)).setNZ (t.a &&& r)
  | .sre m => .modify (.mem m) shiftRight fun r c t => ((t.setC c).setA (t.a ^^^ r)).setNZ (t.a ^^^ r)
  | .rra m => .modify (.mem m) rotateRight fun r c t => (t.setC c).addToA r
  | .dcp m => .modify (.mem m) decrement fun r _ t => t.compare t.a r
  | .isb m => .modify (.mem m) increment fun r _ t => t.subFromA r
  | .undefined op => .halt op

/-- Every instruction answers the state its course leaves: none faults and none is refused. -/
theorem exec_eq_course (i : Instr) (s : State) : exec i s = .next ((courseOf i).run i s) := by
  cases i with
  | nopU op o => cases o <;> rfl
  | _ => rfl

/-! ### What a course keeps, from what its effect keeps -/

/-- A property of states that no bus access and no change of the budget can break. -/
structure BusStable (P : State → Prop) : Prop where
  read : ∀ a s, P s → P (memRead a s).2
  write : ∀ a v s, P s → P (memWrite a v s)
  budget : ∀ n s, P s → P (s.setBudget n)

/-- The effect of a course keeps a property of states; for a course that goes somewhere or halts, so does that change. -/
def Course.Keeps (P : State → Prop) : Course → Prop
  | .implied effect => ∀ t, P t → P (effect t)
  | .read _ effect => ∀ v t, P t → P (effect v t)
  | .store _ _ => True
  | .modify tgt _ effect =>
    (tgt = .acc → ∀ v t, P t → P (t.setA v)) ∧ ∀ v c t, P t → P (effect v c t)
  | .branch _ _ | .jump _ => ∀ a t, P t → P (t.setPc a)
  | .halt op => ∀ a t, P t → P (t.setRun (.halted (.undefinedInstruction op a)))

section
variable {P : State → Prop}

@[simp] theorem Course.keeps_implied (f : State → State) : (implied f).Keeps P ↔ ∀ t, P t → P (f t) := .rfl
@[simp] theorem Course.keeps_read (o : Source) (f : Byte → State → State) :
    (read o f).Keeps P ↔ ∀ v t, P t → P (f v t) := .rfl
@[simp] theorem Course.keeps_store (m : Addressing) (value : State → Byte) : (store m value).Keeps P ↔ True := .rfl
@[simp] theorem Course.keeps_modify (tgt : Target) (op : Byte → Bool → Byte × Bool)
    (f : Byte → Bool → State → State) :
    (modify tgt op f).Keeps P ↔ (tgt = .acc → ∀ v t, P t → P (t.setA v)) ∧ ∀ v c t, P t → P (f v c t) := .rfl
@[simp] theorem Course.keeps_branch (cond : Status → Bool) (rel : Byte) :
    (branch cond rel).Keeps P ↔ ∀ a t, P t → P (t.setPc a) := .rfl
@[simp] theorem Course.keeps_jump (t : JumpTarget) : (jump t).Keeps P ↔ ∀ a t, P t → P (t.setPc a) := .rfl
@[simp] theorem Course.keeps_halt (op : Byte) :
    (halt op).Keeps P ↔ ∀ a t, P t → P (t.setRun (.halted (.undefinedInstruction op a))) := .rfl

/-- An undocumented NOP has no effect of its own, whatever its operand. -/
@[simp] theorem nopCourse_keeps (o : NopOperand) : (nopCourse o).Keeps P := by cases o <;> simp [nopCourse]

end

/-- The state in which the bus accesses of a course begin: with the PC after the instruction, or still at an opcode that
halts the engine. -/
def Course.start (c : Course) (i : Instr) (s : State) : State :=
  match c with
  | .halt _ => s
  | _ => advance i s

/-- Only the PC tells the start of a course from the state it runs from. -/
theorem Course.start_eq (c : Course) (i : Instr) (s : State) : ∃ pc, c.start i s = s.setPc pc := by
  cases c
  case halt => exact ⟨s.pc, rfl⟩
  all_goals exact ⟨_, rfl⟩

theorem load_keeps {P : State → Prop} (hb : BusStable P) (p : Place) {s : State} (h : P s) : P (load p s).2 := by
  cases p with
  | mem ea => exact hb.read ea s h
  | _ => exact h

/-- Reading the target of a jump does not look at the PC, nor touch it. -/
theorem resolveJump_advance (t : JumpTarget) (i : Instr) (s : State) :
    advance i (resolveJump t s).2 = (resolveJump t (advance i s)).2 := by
  cases t with
  | abs a => rfl
  | ind p => simp [resolveJump, advance, read16Bug, readPair_setPc]

theorem resolveJump_keeps {P : State → Prop} (hb : BusStable P) (t : JumpTarget) {s : State} (h : P s) :
    P (resolveJump t s).2 := by
  cases t with
  | abs a => exact h
  | ind p => exact hb.read _ _ (hb.read _ _ h)

/-- A store to memory keeps what bus writes keep; one to A has to keep the property itself. -/
theorem storeTarget_keeps {P : State → Prop} (hb : BusStable P) {t : Target}
    (hA : t = .acc → ∀ v s, P s → P (s.setA v)) (s₀ : State) (v : Byte) {s : State} (h : P s) :
    P (store (resolveTarget t s₀).place v s) := by
  cases t with
  | acc => exact hA rfl v s h
  | mem m => exact hb.write _ v s h

/-- A course keeps a property that its effect and the bus keep. -/
theorem Course.run_keeps {P : State → Prop} (hb : BusStable P) {c : Course} (hc : c.Keeps P) {i : Instr} {s : State}
    (h : P (c.start i s)) : P (c.run i s) := by
  cases c with
  | implied effect => exact hb.budget _ _ (hc _ h)
  | read o effect =>
    simp only [Course.run, runRead, resolveSource_state]
    exact hb.budget _ _ (hc _ _ (load_keeps hb _ h))
  | store m value =>
    simp only [Course.run, runStore, effective_state]
    exact hb.budget _ _ (hb.write _ _ _ h)
  | modify t op effect =>
    obtain ⟨hA, heffect⟩ := hc
    simp only [Course.run, runModify, resolveTarget_state]
    exact hb.budget _ _ (heffect _ _ _ (storeTarget_keeps hb hA s _ (load_keeps hb _ h)))
  | branch cond rel =>
    simp only [Course.run, runBranch]
    split
    · exact hb.budget _ _ (hc _ _ h)
    · exact hb.budget _ _ h
  | jump t =>
    simp only [Course.run, resolveJump_advance]
    exact hb.budget _ _ (hc _ _ (resolveJump_keeps hb t h))
  | halt op => exact hc _ _ h

end Sys2Proof.Machine

namespace Sys2Proof.Machine
open Sys2Proof.Claims

/-! ### The registers and flags an instruction leaves alone (R21 to R24, R32) -/

/-- A property that looks at neither the memories, the devices nor the budget is stable on the bus. -/
theorem BusStable.of_blind {P : State → Prop}
    (h : ∀ s cpu ppu sh nmi d n, P s →
      P { s with cpuMem := cpu, ppuMem := ppu, shim := sh, nmiPending := nmi, draws := d, budget := n }) :
    BusStable P where
  read a s hs := by
    obtain ⟨sh, d, e⟩ := memRead_state a s
    rw [e]; exact h s s.cpuMem s.ppuMem sh s.nmiPending d s.budget hs
  write a v s hs := by
    obtain ⟨cpu, ppu, sh, nmi, e⟩ := memWrite_state a v s
    rw [e]; exact h s cpu ppu sh nmi s.draws s.budget hs
  budget n s hs := h s s.cpuMem s.ppuMem s.shim s.nmiPending s.draws n hs

/-- A part of the state that only an effect can change: the bus, the budget and the PC do not reach it. -/
def EffectOnly {α : Type} (f : State → α) : Prop :=
  ∀ s cpu ppu sh nmi d n pc,
    f { s with cpuMem := cpu, ppuMem := ppu, shim := sh, nmiPending := nmi, draws := d, budget := n, pc := pc } = f s

/-- If the effect of an instruction leaves such a part alone, so does the instruction. -/
theorem EffectOnly.run_eq {α : Type} {f : State → α} (hf : EffectOnly f) {c : Course} {i : Instr} {s : State}
    (hc : c.Keeps (fun t => f t = f s)) : f (c.run i s) = f s := by
  have hbus : BusStable (fun t => f t = f s) :=
    .of_blind fun t cpu ppu sh nmi d n h => (hf t cpu ppu sh nmi d n t.pc).trans h
  obtain ⟨pc, hstart⟩ := c.start_eq i s
  refine Course.run_keeps hbus hc ?_
  rw [hstart]
  exact hf s s.cpuMem s.ppuMem s.shim s.nmiPending s.draws s.budget pc

@[simp] theorem compare_p (reg m : Byte) (s : State) :
    (s.compare reg m).p =
      { s.p with
        c := decide (reg.toNat ≥ m.toNat)
        z := BitVec.ofInt 8 ((reg.toNat : Int) - m.toNat) == 0
        n := (BitVec.ofInt 8 ((reg.toNat : Int) - m.toNat)).getLsbD 7 } := rfl

/-! Field by field: the writers of a field are excluded by the hypothesis, and the effect of every other instruction is
made of updates of other fields (Laws/State.lean, Laws/Flags.lean, Laws/Ops.lean). -/

theorem courseOf_keeps_a {i : Instr} (h : writesA i = false) (v : Byte) : (courseOf i).Keeps (fun t => t.a = v) := by
  cases i
  case lda | txa | tya | pla | adc | sbc | sbcU | and | ora | eor => cases h
  case lax | slo | rla | sre | rra | isb => cases h
  case asl t | lsr t | rol t | ror t =>
    cases t with
    | acc => cases h
    | mem m => simp [courseOf]
  all_goals simp [courseOf]

theorem courseOf_keeps_x {i : Instr} (h : writesX i = false) (v : Byte) : (courseOf i).Keeps (fun t => t.x = v) := by
  cases i
  case ldx | tax | tsx | inx | dex | lax => cases h
  all_goals simp [courseOf, State.addToA, State.subFromA]

theorem courseOf_keeps_y {i : Instr} (h : writesY i = false) (v : Byte) : (courseOf i).Keeps (fun t => t.y = v) := by
  cases i
  case ldy | tay | iny | dey => cases h
  all_goals simp [courseOf, State.addToA, State.subFromA]

theorem courseOf_keeps_sp {i : Instr} (h : writesSp i = false) (v : Byte) : (courseOf i).Keeps (fun t => t.sp = v) := by
  cases i
  case txs | pha | pla | php | plp | jsr | rts | rti | brk => cases h
  all_goals simp [courseOf, State.addToA, State.subFromA]

theorem courseOf_keeps_pc {i : Instr} (h : setsPc i = false) (v : Addr) : (courseOf i).Keeps (fun t => t.pc = v) := by
  cases i
  case bpl | bmi | bvc | bvs | bcc | bcs | bne | beq | jmp | jsr | rts | brk | rti | undefined => cases h
  all_goals simp [courseOf, State.addToA, State.subFromA]

theorem courseOf_keeps_c {i : Instr} (h : writesC i = false) (v : Bool) : (courseOf i).Keeps (fun t => t.p.c = v) := by
  cases i
  case adc | sbc | sbcU | rra | isb | cmp | cpx | cpy | dcp | clc | sec | plp | rti => cases h
  case asl | lsr | rol | ror | slo | rla | sre => cases h
  all_goals simp [courseOf]

theorem courseOf_keeps_zn {i : Instr} (h : writesNZ i = false) (v : Bool × Bool) :
    (courseOf i).Keeps (fun t => (t.p.z, t.p.n) = v) := by
  cases i
  case lda | ldx | ldy | tax | tay | txa | tya | tsx | pla | and | ora | eor => cases h
  case inc | dec | inx | iny | dex | dey | lax | bit | cmp | cpx | cpy | dcp | plp | rti => cases h
  case adc | sbc | sbcU | rra | isb | asl | lsr | rol | ror | slo | rla | sre => cases h
  all_goals simp [courseOf]

theorem courseOf_keeps_i {i : Instr} (h : writesI i = false) (v : Bool) : (courseOf i).Keeps (fun t => t.p.i = v) := by
  cases i
  case cli | sei | plp | rti | brk => cases h
  all_goals simp [courseOf, State.addToA, State.subFromA]

theorem courseOf_keeps_d {i : Instr} (h : writesD i = false) (v : Bool) : (courseOf i).Keeps (fun t => t.p.d = v) := by
  cases i
  case cld | sed | plp | rti => cases h
  all_goals simp [courseOf, State.addToA, State.subFromA]

theorem courseOf_keeps_v {i : Instr} (h : writesV i = false) (v : Bool) : (courseOf i).Keeps (fun t => t.p.v = v) := by
  cases i
  case adc | sbc | sbcU | rra | isb | bit | clv | plp | rti => cases h
  all_goals simp [courseOf]

theorem courseOf_keeps_b {i : Instr} (hplp : i ≠ .plp) (hrti : i ≠ .rti) (v : Bool) :
    (courseOf i).Keeps (fun t => t.p.b = v) := by
  cases i
  case plp => exact absurd rfl hplp
  case rti => exact absurd rfl hrti
  all_goals simp [courseOf, State.addToA, State.subFromA]

/-- R101, R108: an instruction is encoded in as many bytes as its length says. -/
theorem encode_length (i : Instr) : (encode i).length = i.length := by
  apply Laws.EncodedLength.of_operand
  cases i
  case lda o | ldx o | ldy o | adc o | sbc o | and o | ora o | eor o | cmp o | cpx o | cpy o =>
    exact Laws.EncodedLength.source_bytes o
  case sta m | stx m | sty m | bit m | inc m | dec m | lax m | sax m | slo m | rla m | sre m | rra m | dcp m | isb m =>
    exact Laws.EncodedLength.mem_bytes m
  case asl t | lsr t | rol t | ror t => exact Laws.EncodedLength.target_bytes t
  case jmp t => exact Laws.EncodedLength.jump_bytes t
  case nopU op o => exact Laws.EncodedLength.nop_bytes o
  all_goals rfl

end Sys2Proof.Machine

namespace Sys2Proof.Machine
open Sys2Proof.Claims

/-! ### Who writes what (O43, O44, O45) -/

theorem effectOnly_a : EffectOnly State.a := fun _ _ _ _ _ _ _ _ => rfl
theorem effectOnly_x : EffectOnly State.x := fun _ _ _ _ _ _ _ _ => rfl
theorem effectOnly_y : EffectOnly State.y := fun _ _ _ _ _ _ _ _ => rfl
theorem effectOnly_sp : EffectOnly State.sp := fun _ _ _ _ _ _ _ _ => rfl
theorem effectOnly_zn : EffectOnly (fun t => (t.p.z, t.p.n)) := fun _ _ _ _ _ _ _ _ => rfl

/-- No flag is reached by the bus, the budget or the PC. -/
theorem effectOnly_flag (flag : Status → Bool) : EffectOnly (fun t => flag t.p) := fun _ _ _ _ _ _ _ _ => rfl

/-- Settles O43: an instruction that the lists of R21 and R22 leave out has an effect that keeps the register. -/
theorem registerWriters : Obligations.RegisterWriters := fun i s =>
  ⟨_, exec_eq_course i s,
    fun h => effectOnly_a.run_eq (courseOf_keeps_a h s.a),
    fun h => effectOnly_x.run_eq (courseOf_keeps_x h s.x),
    fun h => effectOnly_y.run_eq (courseOf_keeps_y h s.y)⟩

/-- A course that goes nowhere starts, and so ends, with the PC after its own bytes. -/
theorem run_pc {i : Instr} (h : setsPc i = false) (s : State) :
    ((courseOf i).run i s).pc = s.pc + BitVec.ofNat 16 (encode i).length := by
  have hstart : ((courseOf i).start i s).pc = s.pc + BitVec.ofNat 16 (encode i).length := by
    rw [encode_length]
    cases i
    case undefined op => cases h
    case nopU op o => cases o <;> rfl
    all_goals rfl
  exact Course.run_keeps (.of_blind fun _ _ _ _ _ _ _ hpc => hpc) (courseOf_keeps_pc h _) hstart

/-- Settles O44: SP as in O43; the PC is advanced before the effect, which does not move it again. -/
theorem pointerWriters : Obligations.PointerWriters := fun i s =>
  ⟨_, exec_eq_course i s, fun h => effectOnly_sp.run_eq (courseOf_keeps_sp h s.sp), fun h => run_pc h s⟩

/-- R28: B is clear after PLP and RTI, which pull it as 0; every other instruction leaves it. -/
theorem run_b (i : Instr) (s : State) :
    ((courseOf i).run i s).p.b = if i = .plp ∨ i = .rti then false else s.p.b := by
  by_cases hp : i = .plp
  · subst hp; simp [courseOf, Course.run, runImplied, Status.pulled]
  by_cases hr : i = .rti
  · subst hr; simp [courseOf, Course.run, runImplied, Status.pulled]
  rw [if_neg (by simp [hp, hr])]
  exact (effectOnly_flag Status.b).run_eq (courseOf_keeps_b hp hr s.p.b)

/-- Settles O45: flag by flag, an instruction without the flag in its row of R32 has an effect that keeps it. -/
theorem flagWriters : Obligations.FlagWriters := fun i s =>
  ⟨_, exec_eq_course i s,
    fun h => (effectOnly_flag Status.c).run_eq (courseOf_keeps_c h s.p.c),
    fun h => Prod.mk.inj (effectOnly_zn.run_eq (courseOf_keeps_zn h (s.p.z, s.p.n))),
    fun h => (effectOnly_flag Status.i).run_eq (courseOf_keeps_i h s.p.i),
    fun h => (effectOnly_flag Status.d).run_eq (courseOf_keeps_d h s.p.d),
    fun h => (effectOnly_flag Status.v).run_eq (courseOf_keeps_v h s.p.v),
    run_b i s⟩

end Sys2Proof.Machine

namespace Sys2Proof.Machine
open Sys2Proof.Claims

/-! ### The invariant (O52, O53) -/

/-- Settles O53: the memories are empty lists, and the engine runs. -/
theorem resetMeetsInvariant : Obligations.ResetMeetsInvariant where
  cpuMem := rfl
  ppuMem := rfl
  breakClear := rfl
  budget := Nat.zero_le 7
  halted := fun _ h => by cases h

/-- Both memories are in canonical form (R37). -/
def CanonicalMemories (s : State) : Prop := s.cpuMem.wf cpuMemSize = true ∧ s.ppuMem.wf ppuMemSize = true

theorem canonicalMemories_busStable : BusStable CanonicalMemories where
  read a s h := by simpa [CanonicalMemories] using h
  write a v s h := ⟨memWrite_cpuMem_wf h.1, memWrite_ppuMem_wf h.2⟩
  budget n s h := h

/-- A push keeps both memories canonical. -/
theorem push_canonical (v : Byte) {s : State} (h : CanonicalMemories s) : CanonicalMemories (push v s) :=
  canonicalMemories_busStable.write _ v s h

theorem pushWord_canonical (w : Addr) {s : State} (h : CanonicalMemories s) : CanonicalMemories (pushWord w s) :=
  push_canonical _ (push_canonical _ h)

theorem interruptEntry_canonical (ret : Addr) (b : Bool) (vector : Addr) {s : State} (h : CanonicalMemories s) :
    CanonicalMemories (interruptEntry ret b vector s) :=
  ⟨interruptEntry_wf h.1, by simpa using h.2⟩

/-- No effect but a push touches a memory, so every effect keeps them canonical. -/
theorem courseOf_keeps_canonical (i : Instr) : (courseOf i).Keeps CanonicalMemories := by
  cases i
  case jsr a => exact fun t h => pushWord_canonical _ h
  case pha => exact fun t h => push_canonical _ h
  case php => exact fun t h => push_canonical _ h
  case brk => exact fun t h => interruptEntry_canonical _ _ _ h
  all_goals simp [courseOf, CanonicalMemories, State.addToA, State.subFromA]

theorem run_canonical (i : Instr) {s : State} (h : CanonicalMemories s) :
    CanonicalMemories ((courseOf i).run i s) := by
  refine Course.run_keeps canonicalMemories_busStable (courseOf_keeps_canonical i) ?_
  obtain ⟨pc, hstart⟩ := (courseOf i).start_eq i s
  rw [hstart]
  exact h

/-- The most cycles a course can pay beyond the base cycles (R151, R152). -/
def Course.maxExtra : Course → Nat
  | .read _ _ => 1
  | .branch _ _ => 2
  | _ => 0

theorem penalty_le_one (cross : Bool) : penalty cross ≤ 1 := by cases cross <;> decide

theorem Course.run_budget_le {c : Course} {i : Instr} {s : State} (hs : s.budget ≤ 7)
    (hc : i.baseCycles + c.maxExtra ≤ 8) : (c.run i s).budget ≤ 7 := by
  cases c <;> simp only [Course.maxExtra] at hc
  case read o effect =>
    have := penalty_le_one (resolveSource o s).cross
    simp only [Course.run, runRead, finish_budget]
    omega
  case branch cond rel =>
    have := penalty_le_one (hiByte (branchTarget s.pc rel) != hiByte (advance i s).pc)
    simp only [Course.run, runBranch]
    split <;> simp only [finish_budget] <;> omega
  case halt op => exact hs
  all_goals
    simp only [Course.run, runImplied, runStore, runModify, finish_budget]
    omega

theorem readCycles_le (m : Addressing) : m.readCycles ≤ 6 := by cases m <;> simp [Addressing.readCycles]
theorem storeCycles_le (m : Addressing) : m.storeCycles ≤ 6 := by cases m <;> simp [Addressing.storeCycles]
theorem rmwCycles_le (m : Addressing) : m.rmwCycles ≤ 8 := by cases m <;> simp [Addressing.rmwCycles]

theorem sourceCycles_le (o : Source) : o.cycles ≤ 6 := by
  cases o with
  | imm b => simp [Source.cycles]
  | mem m => exact readCycles_le m

theorem targetCycles_le (t : Target) : t.cycles ≤ 8 := by
  cases t with
  | acc => simp [Target.cycles]
  | mem m => exact rmwCycles_le m

/-- R470: no instruction takes more than eight ticks, its penalties included. -/
theorem baseCycles_add_maxExtra_le (i : Instr) : i.baseCycles + (courseOf i).maxExtra ≤ 8 := by
  have read_le {n : Nat} (h : n ≤ 6) : n + 1 ≤ 8 := by omega
  have store_le {n : Nat} (h : n ≤ 6) : n + 0 ≤ 8 := by omega
  cases i
  case lda o | ldx o | ldy o | adc o | sbc o | and o | ora o | eor o | cmp o | cpx o | cpy o =>
    exact read_le (sourceCycles_le o)
  case bit m | lax m => exact read_le (readCycles_le m)
  case nopU op o =>
    cases o with
    | mem m => exact read_le (readCycles_le m)
    | _ => simp [Instr.baseCycles, NopOperand.cycles, courseOf, nopCourse, Course.maxExtra]
  case sta m | stx m | sty m | sax m => exact store_le (storeCycles_le m)
  case inc m | dec m | slo m | rla m | sre m | rra m | dcp m | isb m => exact rmwCycles_le m
  case asl t | lsr t | rol t | ror t => exact targetCycles_le t
  case jmp t => cases t <;> simp [Instr.baseCycles, courseOf, Course.maxExtra]
  all_goals simp [Instr.baseCycles, courseOf, Course.maxExtra]

theorem effectOnly_run : EffectOnly State.run := fun _ _ _ _ _ _ _ _ => rfl

theorem courseOf_keeps_run {i : Instr} (h : i.hasDescriptor = true) (r : RunState) :
    (courseOf i).Keeps (fun t => t.run = r) := by
  cases i
  case undefined => cases h
  all_goals simp [courseOf, State.addToA, State.subFromA]

/-- R133, R401: what is fetched has a descriptor, or is the term for an opcode that the configuration does not admit. -/
theorem fetch_instr (s : State) :
    (fetch s).instr.hasDescriptor = true ∨
      ∃ op, (fetch s).instr = .undefined op ∧ (instrOf op 0 0).admitted s.config.unofficial = false := by
  have hdesc : ∀ op b1 b2, (instrOf op 0 0).admitted s.config.unofficial = true →
      (instrOf op b1 b2).hasDescriptor = true := fun op b1 b2 h => by
    rw [← instrOf_admitted _ op b1 b2, Instr.admitted, Bool.and_eq_true] at h
    exact h.1
  unfold fetch
  dsimp only
  split
  next h => split <;> exact .inl (hdesc _ _ _ h)
  next h => exact .inr ⟨_, rfl, by simpa using h⟩

/-- A running engine has no halt to record. -/
theorem Inv.of_running {s : State} (hm : CanonicalMemories s) (hp : s.p.b = false) (hb : s.budget ≤ 7)
    (hr : s.run = .running) : Inv s where
  cpuMem := hm.1
  ppuMem := hm.2
  breakClear := hp
  budget := hb
  halted := fun reason h => by rw [hr] at h; cases h

/-- A halt at an opcode that the configuration does not admit is recorded as R401 says. -/
theorem Inv.of_halt {s : State} {op : Byte} (hm : CanonicalMemories s) (hp : s.p.b = false) (h0 : s.budget = 0)
    (hadm : (instrOf op 0 0).admitted s.config.unofficial = false) :
    Inv (s.setRun (.halted (.undefinedInstruction op s.pc))) where
  cpuMem := hm.1
  ppuMem := hm.2
  breakClear := hp
  budget := by simp [h0]
  halted := fun reason h => ⟨op, by simpa using h.symm, hadm, h0⟩

/-- The instruction at a boundary: one with a descriptor leaves the engine running, one without halts it as R401 records. -/
theorem executeOne_keeps_inv {s t : State} (hs : Inv s) (hr : s.run = .running) (h0 : s.budget = 0)
    (h : executeOne s = .next t) : Inv t := by
  simp only [executeOne, exec_eq_course, Host.Outcome.next.injEq] at h
  subst h
  have hm : CanonicalMemories (fetch s).state := by simpa [CanonicalMemories] using ⟨hs.cpuMem, hs.ppuMem⟩
  have hp : (fetch s).state.p.b = false := by simpa using hs.breakClear
  obtain hd | ⟨op, hop, hadm⟩ := fetch_instr s
  · refine .of_running (run_canonical _ hm) ?_ ?_ ?_
    · rw [run_b, hp, ite_self]
    · exact Course.run_budget_le (by simp [h0]) (baseCycles_add_maxExtra_le _)
    · rw [effectOnly_run.run_eq (courseOf_keeps_run hd _), fetch_run, hr]
  · rw [hop]
    exact .of_halt hm hp (by simp [h0]) (by simpa using hadm)

theorem serviceReset_canonical {s : State} (h : CanonicalMemories s) : CanonicalMemories (serviceReset s) := by
  refine ⟨?_, by simpa [serviceReset] using h.2⟩
  simpa [serviceReset] using resetStack_wf (s := s.setResetPending false) h.1

/-- A service leaves six ticks to count down (R132, R471). -/
theorem Inv.of_service {u : State} (hm : CanonicalMemories u) (hp : u.p.b = false) (hr : u.run = .running) :
    Inv (u.setBudget serviceBudget) :=
  .of_running hm hp (by simp [serviceBudget]) hr

/-- A boundary is one of the three services, or the instruction at the PC. -/
theorem boundary_keeps_inv {s t : State} (hs : Inv s) (hr : s.run = .running) (h0 : s.budget = 0)
    (h : boundary s = .next t) : Inv t := by
  have hm : CanonicalMemories s := ⟨hs.cpuMem, hs.ppuMem⟩
  have hp := hs.breakClear
  unfold boundary at h
  split at h
  · cases h
    exact .of_service (serviceReset_canonical hm) (by simpa [serviceReset] using hp) (by simpa [serviceReset] using hr)
  split at h
  · cases h
    exact .of_service (interruptEntry_canonical _ _ _ hm) (by simpa [serviceNmi] using hp) (by simpa [serviceNmi] using hr)
  split at h
  · cases h
    exact .of_service (interruptEntry_canonical _ _ _ hm) (by simpa [serviceIrq] using hp) (by simpa [serviceIrq] using hr)
  · exact executeOne_keeps_inv hs hr h0 h

theorem tick_keeps_inv {s t : State} (hs : Inv s) (h : tick s = .next t) : Inv t := by
  unfold tick at h
  split at h
  next => cases h; exact hs
  next hr =>
    split at h
    next =>
      cases h
      have hb := hs.budget
      exact .of_running ⟨hs.cpuMem, hs.ppuMem⟩ hs.breakClear (by simp only [State.setBudget_budget]; omega) hr
    next hb => exact boundary_keeps_inv hs hr (by omega) h

/-- The host's events reach nothing that the invariant speaks of. -/
theorem deliver_keeps_inv {s : State} (hs : Inv s) : Inv (deliver s) where
  cpuMem := by simpa using hs.cpuMem
  ppuMem := by simpa using hs.ppuMem
  breakClear := by simpa using hs.breakClear
  budget := by simpa using hs.budget
  halted := by simpa [HaltedAsRecorded] using hs.halted

/-- Settles O52: the events before the tick keep the invariant, and so does each thing a tick can be. -/
theorem stepKeepsInvariant : Obligations.StepKeepsInvariant :=
  fun _ _ hs h => tick_keeps_inv (deliver_keeps_inv hs) h

end Sys2Proof.Machine

namespace Sys2Proof.Machine
open Sys2Proof.Claims

/-! ### D is inert (O46): every operation but the writers and pushers of D commutes with setting it -/

section
variable (d : Bool)

theorem memRead_setD (a : Addr) (s : State) : memRead a (s.setD d) = ((memRead a s).1, (memRead a s).2.setD d) := by
  simp [State.setD, memRead_setP]

theorem memWrite_setD (a : Addr) (v : Byte) (s : State) : memWrite a v (s.setD d) = (memWrite a v s).setD d := by
  simp [State.setD, memWrite_setP]

theorem read16Bug_setD (a : Addr) (s : State) :
    read16Bug a (s.setD d) = ((read16Bug a s).1, (read16Bug a s).2.setD d) := by
  simp [read16Bug, readPair, memRead_setD]

theorem push_setD (v : Byte) (s : State) : push v (s.setD d) = (push v s).setD d := by
  simp only [push_eq]; rfl

theorem pushWord_setD (w : Addr) (s : State) : pushWord w (s.setD d) = (pushWord w s).setD d := by
  simp only [pushWord, push_setD]

theorem pull_setD (s : State) : pull (s.setD d) = ((pull s).1, (pull s).2.setD d) := by
  simp only [pull_eq]; rfl

theorem pullWord_setD (s : State) : pullWord (s.setD d) = ((pullWord s).1, (pullWord s).2.setD d) := by
  simp only [pullWord, pull_setD]

theorem effective_setD (m : Addressing) (s : State) :
    (effective m (s.setD d)).ea = (effective m s).ea ∧ (effective m (s.setD d)).cross = (effective m s).cross := by
  cases m <;> simp [effective, Effective.fixed, Effective.indexed, read16Zp_plain]

theorem resolveSource_setD (o : Source) (s : State) :
    resolveSource o (s.setD d) = { resolveSource o s with state := s.setD d } := by
  cases o <;> simp [resolveSource, resolveMem, effective_setD]

theorem resolveTarget_setD (t : Target) (s : State) :
    resolveTarget t (s.setD d) = { resolveTarget t s with state := s.setD d } := by
  cases t <;> simp [resolveTarget, resolveMem, effective_setD]

theorem resolveJump_setD (t : JumpTarget) (s : State) :
    resolveJump t (s.setD d) = ((resolveJump t s).1, (resolveJump t s).2.setD d) := by
  cases t with
  | abs a => rfl
  | ind p => exact read16Bug_setD d p s

theorem load_setD (p : Place) (s : State) : load p (s.setD d) = ((load p s).1, (load p s).2.setD d) := by
  cases p with
  | mem ea => exact memRead_setD d ea s
  | _ => rfl

theorem store_setD (p : Place) (v : Byte) (s : State) : store p v (s.setD d) = (store p v s).setD d := by
  cases p with
  | mem ea => exact memWrite_setD d ea v s
  | _ => rfl

theorem advance_setD (i : Instr) (s : State) : advance i (s.setD d) = (advance i s).setD d := rfl

theorem finish_setD (i : Instr) (e : Nat) (s : State) : finish i e (s.setD d) = (finish i e s).setD d := rfl

/-- The effect of a course neither looks at D nor writes it. -/
def Course.IgnoresD : Course → Prop
  | .implied effect => ∀ t, effect (t.setD d) = (effect t).setD d
  | .read _ effect => ∀ v t, effect v (t.setD d) = (effect v t).setD d
  | .store _ value => ∀ t, value (t.setD d) = value t
  | .modify _ _ effect => ∀ v c t, effect v c (t.setD d) = (effect v c t).setD d
  | .branch cond _ => ∀ p : Status, cond { p with d := d } = cond p
  | .jump _ | .halt _ => True

/-- A course whose effect ignores D ignores it as a whole. -/
theorem Course.run_setD {c : Course} (hc : c.IgnoresD d) (i : Instr) (s : State) :
    c.run i (s.setD d) = (c.run i s).setD d := by
  cases c with
  | implied effect =>
    simp only [Course.run, runImplied, advance_setD, hc _, finish_setD]
  | read o effect =>
    simp only [Course.run, runRead, resolveSource_setD, resolveSource_state, advance_setD, load_setD, hc _ _, finish_setD]
  | store m value =>
    simp only [Course.run, runStore, effective_setD, effective_state, advance_setD, hc _, memWrite_setD, finish_setD]
  | modify t op effect =>
    simp only [Course.run, runModify, resolveTarget_setD, resolveTarget_state, advance_setD, load_setD, load_p,
      State.setD_p, store_setD, hc _ _ _, finish_setD]
  | branch cond rel =>
    simp only [Course.run, runBranch, State.setD_p, State.setD_pc, hc s.p, apply_ite (State.setD d)]
    rfl
  | jump t =>
    simp only [Course.run, resolveJump_setD]
    rfl
  | halt op => rfl

/-- R27, R108, R218: no effect looks at D but those that push the status, and none writes it but those of R32's row. -/
theorem courseOf_ignoresD {i : Instr} (h : writesD i = false) (hphp : i ≠ .php) (hbrk : i ≠ .brk) :
    (courseOf i).IgnoresD d := by
  cases i
  case cld | sed | plp | rti => cases h
  case php => exact absurd rfl hphp
  case brk => exact absurd rfl hbrk
  case jsr a => exact fun t => by simp only [State.setD_pc, pushWord_setD]; rfl
  case rts => exact fun t => by simp only [pullWord_setD]; rfl
  case pha => exact fun t => push_setD d t.a t
  case pla => exact fun t => by simp only [pull_setD]; rfl
  case nopU op o =>
    cases o with
    | imp => exact fun _ => rfl
    | imm b => exact fun _ _ => rfl
    | mem m => exact fun _ _ => rfl
  case jmp | undefined => trivial
  case bpl | bmi | bvc | bvs | bcc | bcs | bne | beq => exact fun _ => rfl
  all_goals
    simp only [courseOf, Course.IgnoresD]
    intros
    rfl

end

/-- Settles O46: a course that ignores D gives, from the state with the other D, the same next state with that D. -/
theorem decimalInert : Obligations.DecimalInert := fun i s t d h hphp hbrk hexec => by
  rw [exec_eq_course, Host.Outcome.next.injEq] at hexec ⊢
  subst hexec
  exact Course.run_setD d (courseOf_ignoresD d h hphp hbrk) i s

end Sys2Proof.Machine

namespace Sys2Proof.Machine

/-! ### The status images (O29) -/

/-- The bits of a byte that is put together from bit 7 down to bit 0. -/
theorem getLsbD_byteOfBits (b7 b6 b5 b4 b3 b2 b1 b0 : Bool) (k : Nat) :
    (byteOfBits b7 b6 b5 b4 b3 b2 b1 b0).getLsbD k = [b0, b1, b2, b3, b4, b5, b6, b7].getD k false := by
  rcases k with _ | _ | _ | _ | _ | _ | _ | _ | k <;>
    simp only [byteOfBits, BitVec.getLsbD_append, BitVec.getLsbD_ofBool] <;> simp

/-- R292: the bits of a pushed status, from bit 0 up. -/
theorem getLsbD_pushed (p : Status) (b : Bool) (k : Nat) :
    (p.pushed b).getLsbD k = [p.c, p.z, p.i, p.d, b, true, p.v, p.n].getD k false :=
  getLsbD_byteOfBits _ _ _ _ _ _ _ _ k

/-- R292: a pull takes back the six flags that a push stored, and clears B. -/
theorem pulled_pushed (p : Status) (b : Bool) : Status.pulled (p.pushed b) = { p with b := false } := by
  simp only [Status.pulled, getLsbD_pushed]
  rfl

/-- R29, R292: the register a byte is pulled into reads back as that byte with bit 4 clear and bit 5 set. -/
theorem byte_pulled (v : Byte) : (Status.pulled v).byte = v &&& 0xEF ||| 0x20 := by
  apply BitVec.eq_of_getLsbD_eq
  intro k hk
  rw [Status.byte, getLsbD_byteOfBits]
  interval_cases k <;> simp [Status.pulled]

/-- Settles O29: each bit of a pushed image is the bit it was put together from. -/
theorem statusImages : Obligations.StatusImages :=
  ⟨fun p b =>
    have bit := getLsbD_pushed p b
    ⟨bit 0, bit 1, bit 2, bit 3, bit 4, bit 5, bit 6, bit 7, rfl, pulled_pushed p b⟩,
   fun v => ⟨rfl, byte_pulled v⟩⟩

end Sys2Proof.Machine

namespace Sys2Proof.Machine
open Sys2Proof.Claims

/-! ### The bus (O35, O36) -/

/-- R54: the window is the eight addresses from 0x2000 on. -/
theorem shimReg_of_window {a : Addr} (hlo : 0x2000 ≤ a.toNat) (hhi : a.toNat ≤ 0x2007) : ∃ r, shimReg a = some r := by
  unfold shimReg
  generalize a.toNat = n at *
  interval_cases n <;> exact ⟨_, rfl⟩

theorem memRead_window {a : Addr} {r : ShimReg} (h : shimReg a = some r) (s : State) : memRead a s = shimRead r s := by
  simp only [memRead, h]

theorem memWrite_window {a : Addr} {r : ShimReg} (h : shimReg a = some r) (v : Byte) (s : State) :
    memWrite a v s = shimWrite r v s := by
  simp only [memWrite, h]

/-- R53: a write at 0x8000 and above is dropped when `P_ROM_WRITABLE` is false. -/
theorem memWrite_rom {a : Addr} (h : shimReg a = none) (v : Byte) {s : State} (ha : 0x8000 ≤ a.toNat)
    (hw : s.config.romWritable = false) : memWrite a v s = s := by
  simp [memWrite, h, ha, hw]

/-- R54: a register's read neither looks at `cpu_mem` nor touches it. -/
theorem shimRead_setCpuMem (r : ShimReg) (m : Memory) (s : State) :
    shimRead r (s.setCpuMem m) = ((shimRead r s).1, (shimRead r s).2.setCpuMem m) := by
  cases r
  case data =>
    by_cases hb : s.config.ppuReadBuffered = true <;> by_cases hp : s.shim.vramAddr.toNat < 0x3F00 <;>
      simp only [shimRead, readVramData, State.setCpuMem_config, State.setCpuMem_shim, hb, hp, if_true] <;> rfl
  all_goals rfl

theorem ppuWrite_setCpuMem (a : PpuAddr) (v : Byte) (m : Memory) (s : State) :
    ppuWrite a v (s.setCpuMem m) = (ppuWrite a v s).setCpuMem m := by
  simp only [ppuWrite, apply_ite (State.setCpuMem m)]
  rfl

/-- R54: a register's write neither looks at `cpu_mem` nor touches it. -/
theorem shimWrite_setCpuMem (r : ShimReg) (v : Byte) (m : Memory) (s : State) :
    shimWrite r v (s.setCpuMem m) = (shimWrite r v s).setCpuMem m := by
  cases r
  case addr => simp only [shimWrite, writeAddr, State.setCpuMem_shim, apply_ite (State.setCpuMem m)]; rfl
  case data => simp only [shimWrite, State.setCpuMem_shim, ppuWrite_setCpuMem]; rfl
  all_goals rfl

/-- Settles O35: by the address, inside the window or outside. -/
theorem busArbiter : Obligations.BusArbiter :=
  ⟨rfl, fun a v s =>
    ⟨fun hout =>
      have hnone : shimReg a = none := shimReg_eq_none (by omega)
      ⟨memRead_plain hnone s, fun hw => memWrite_plain hnone v hw, fun hrom hw => memWrite_rom hnone v hrom hw⟩,
    fun r hr => ⟨memRead_window hr s, memWrite_window hr v s⟩,
    fun hlo hhi m => by
      obtain ⟨r, hr⟩ := shimReg_of_window hlo hhi
      have hread := shimRead_setCpuMem r m s
      simp only [memRead_window hr, memWrite_window hr]
      exact ⟨(congrArg Prod.fst hread :), (congrArg Prod.snd hread :), shimWrite_setCpuMem r v m s⟩⟩⟩

/-- Settles O36: both accesses are to `cpu_mem`, so it is the law of a byte array in canonical form. -/
theorem readAfterWrite : Obligations.ReadAfterWrite := fun a b v s hwf ha hb hw => by
  rw [memWrite_plain ha v hw, memRead_plain hb, memRead_plain hb, State.setCpuMem_cpuMem]
  split
  next h => subst h; exact Memory.read_write_same hwf
  next h => exact Memory.read_write_other (fun e => h (BitVec.eq_of_toNat_eq e)) v s.cpuMem

/-! ### The registers of the window (O37 to O40) -/

/-- R64: a write of control requests an NMI exactly when it enables one while VBlank is set. -/
theorem writeCtrl_enabling {v : Byte} {s : State}
    (h : s.config.nmiOnEnable = true ∧ s.shim.vblank = true ∧ s.shim.ctrl.getLsbD 7 = false ∧ v.getLsbD 7 = true) :
    writeCtrl v s = { s with shim := { s.shim with ctrl := v }, nmiPending := true } := by
  obtain ⟨hcfg, hvb, hold, hnew⟩ := h
  simp only [writeCtrl, hcfg, hvb, hold, hnew, Bool.not_false, Bool.and_self, Bool.or_true]
  rfl

theorem writeCtrl_quiet {v : Byte} {s : State}
    (h : ¬(s.config.nmiOnEnable = true ∧ s.shim.vblank = true ∧ s.shim.ctrl.getLsbD 7 = false ∧ v.getLsbD 7 = true)) :
    writeCtrl v s = { s with shim := { s.shim with ctrl := v } } := by
  have hoff : (s.config.nmiOnEnable && s.shim.vblank && !s.shim.ctrl.getLsbD 7 && v.getLsbD 7) = false := by
    simpa [and_assoc] using h
  simp only [writeCtrl, hoff, Bool.or_false]
  rfl

/-- Settles O37: each access is the shim's, and the NMI request is the one case to decide. -/
theorem controlAndMask : Obligations.ControlAndMask :=
  ⟨rfl, rfl, fun _ _ => ⟨rfl, rfl, rfl, writeCtrl_enabling, writeCtrl_quiet⟩⟩

/-- R66: bit 7 of a status read is the VBlank flag. -/
theorem readStatus_bit7 (s : State) : (readStatus s).1.getLsbD 7 = s.shim.vblank := by
  simp only [readStatus, BitVec.getLsbD_append]
  simp

/-- Settles O38: the first read leaves VBlank clear for the second. -/
theorem statusRegister : Obligations.StatusRegister := fun _ s =>
  ⟨⟨Config.statusLow s.draws, rfl⟩, readStatus_bit7 s, readStatus_bit7 (readStatus s).2, rfl⟩

theorem writeAddr_high {v : Byte} {s : State} (h : s.shim.w = false) :
    writeAddr v s = { s with shim := { s.shim with addrHi := v.extractLsb' 0 6, w := true } } := by
  simp only [writeAddr, h]
  rfl

theorem writeAddr_low {v : Byte} {s : State} (h : s.shim.w = true) :
    writeAddr v s = { s with shim := { s.shim with vramAddr := s.shim.addrHi ++ v, w := false } } := by
  simp only [writeAddr, h]
  rfl

/-- R69: the pointer that a pair of address writes sets, as a number. -/
theorem toNat_addressPair (hi lo : Byte) : (hi.extractLsb' 0 6 ++ lo).toNat = 256 * (hi.toNat % 64) + lo.toNat := by
  have hlo := lo.isLt
  rw [BitVec.toNat_append, ← Nat.shiftLeft_add_eq_or_of_lt hlo, Nat.shiftLeft_eq, BitVec.extractLsb'_toNat]
  simp
  omega

/-- Settles O39: the second of two address writes finds the high bits and the toggle that the first has set. -/
theorem oamScrollAddress : Obligations.OamScrollAddress := fun v hi lo s =>
  ⟨rfl, rfl, rfl, ⟨Config.oamRead s.draws, rfl⟩, rfl, rfl, rfl, writeAddr_high, writeAddr_low, fun hw => by
    change (writeAddr lo (writeAddr hi s)).shim.vramAddr.toNat = _
    rw [writeAddr_high hw, writeAddr_low rfl]
    exact toNat_addressPair hi lo⟩

/-- R71: an access of 0x2007 moves the pointer by one step. -/
theorem advanceVram_eq (s : State) : advanceVram s = { s with shim := { s.shim with vramAddr := nextVram s } } := by
  simp only [advanceVram, vramStep, nextVram]
  split <;> rfl

theorem ppuWrite_stored {a : PpuAddr} (v : Byte) {s : State} (h : 0x2000 ≤ a.toNat ∨ s.config.chrWritable = true) :
    ppuWrite a v s = { s with ppuMem := s.ppuMem.write a.toNat v } := by
  unfold ppuWrite
  split
  next hc =>
    simp only [Bool.and_eq_true, decide_eq_true_eq, Bool.not_eq_true'] at hc
    obtain ⟨hlow, hrom⟩ := hc
    exact absurd h (by simp [hrom]; omega)
  next => rfl

theorem ppuWrite_dropped {a : PpuAddr} (v : Byte) {s : State} (h : a.toNat < 0x2000) (hc : s.config.chrWritable = false) :
    ppuWrite a v s = s := by
  simp [ppuWrite, h, hc]

/-- Settles O40: case by case, the access and then the step of the pointer. -/
theorem dataRegister : Obligations.DataRegister := fun v s => by
  refine ⟨fun h => ?_, fun h hc => ?_, fun hb h => ?_, fun hb h => ⟨Config.paletteBuffer s.draws, ?_⟩, fun hb => ?_⟩
  · change advanceVram (ppuWrite _ v s) = _
    rw [ppuWrite_stored v h, advanceVram_eq]
    rfl
  · change advanceVram (ppuWrite _ v s) = _
    rw [ppuWrite_dropped v h hc, advanceVram_eq]
  · change readVramData s = _
    simp only [readVramData, hb, h, if_true, advanceVram_eq]
    rfl
  · change readVramData s = _
    simp only [readVramData, hb, Nat.not_lt.mpr h, if_true, if_false, advanceVram_eq]
    rfl
  · change readVramData s = _
    simp only [readVramData, hb, Bool.false_eq_true, if_false, advanceVram_eq]
    rfl

end Sys2Proof.Machine

namespace Sys2Proof.Machine
open Sys2Proof.Claims

/-! ### The accesses of a course (R63, R87): where it reads and writes, so that a frame looks at no other address -/

/-- The course reads a byte at this address: the data of its operand, or the pointer of an indirect jump. -/
def Course.ReadsAt (s : State) : Course → Addr → Prop
  | .read (.mem m) _, a | .modify (.mem m) _ _, a => a = (effective m s).ea
  | .jump (.ind p), a => a = p ∨ a = word (loByte p + 1) (hiByte p)
  | _, _ => False

/-- The course writes its operand at this address. (A push is an effect of a course, not an access of it.) -/
def Course.WritesAt (s : State) : Course → Addr → Prop
  | .store m _, a | .modify (.mem m) _ _, a => a = (effective m s).ea
  | _, _ => False

/-- A course keeps a property that its effect keeps, and the bus accesses it makes, and the change of the budget. -/
theorem Course.run_keeps_of_accesses {P : State → Prop} {c : Course} {i : Instr} {s : State}
    (hread : ∀ a t, c.ReadsAt s a → P t → P (memRead a t).2)
    (hwrite : ∀ a v t, c.WritesAt s a → P t → P (memWrite a v t))
    (hbudget : ∀ n t, P t → P (t.setBudget n)) (hc : c.Keeps P) (h : P (c.start i s)) : P (c.run i s) := by
  cases c with
  | implied effect => exact hbudget _ _ (hc _ h)
  | read o effect =>
    simp only [Course.run, runRead, resolveSource_state]
    cases o with
    | imm b => exact hbudget _ _ (hc _ _ h)
    | mem m => exact hbudget _ _ (hc _ _ (hread _ _ rfl h))
  | store m value =>
    simp only [Course.run, runStore, effective_state]
    exact hbudget _ _ (hwrite _ _ _ rfl h)
  | modify t op effect =>
    obtain ⟨hA, heffect⟩ := hc
    simp only [Course.run, runModify, resolveTarget_state]
    cases t with
    | acc => exact hbudget _ _ (heffect _ _ _ (hA rfl _ _ h))
    | mem m => exact hbudget _ _ (heffect _ _ _ (hwrite _ _ _ rfl (hread _ _ rfl h)))
  | branch cond rel =>
    simp only [Course.run, runBranch]
    split
    · exact hbudget _ _ (hc _ _ h)
    · exact hbudget _ _ h
  | jump t =>
    simp only [Course.run, resolveJump_advance]
    cases t with
    | abs a => exact hbudget _ _ (hc _ _ h)
    | ind p => exact hbudget _ _ (hc _ _ (hread _ _ (.inr rfl) (hread _ _ (.inl rfl) h)))
  | halt op => exact hc _ _ h

/-- R87: an instruction writes no operand but the memory operand that it stores to or modifies. -/
theorem courseOf_writesAt {i : Instr} {s : State} {a : Addr} (h : (courseOf i).WritesAt s a) :
    ∃ m use, memoryUse i = some (m, use) ∧ use ≠ .reads ∧ a = (effective m s).ea := by
  cases i
  case sta m | stx m | sty m | sax m => exact ⟨m, .stores, rfl, nofun, h⟩
  case inc m | dec m | slo m | rla m | sre m | rra m | dcp m | isb m => exact ⟨m, .modifies, rfl, nofun, h⟩
  case asl t | lsr t | rol t | ror t =>
    cases t with
    | acc => cases h
    | mem m => exact ⟨m, .modifies, rfl, nofun, h⟩
  case nopU op o => cases o <;> cases h
  all_goals cases h

/-- R87: an instruction reads no byte but its memory operand and the pointer of an indirect jump. -/
theorem courseOf_readsAt {i : Instr} {s : State} {a : Addr} (h : (courseOf i).ReadsAt s a) :
    (∃ m use, memoryUse i = some (m, use) ∧ a = (effective m s).ea) ∨
      ∃ p, i = .jmp (.ind p) ∧ (a = p ∨ a = word (loByte p + 1) (hiByte p)) := by
  cases i
  case lda o | ldx o | ldy o | adc o | sbc o | and o | ora o | eor o | cmp o | cpx o | cpy o =>
    cases o with
    | imm b => cases h
    | mem m => exact .inl ⟨m, .reads, rfl, h⟩
  case bit m | lax m => exact .inl ⟨m, .reads, rfl, h⟩
  case nopU op o =>
    cases o with
    | mem m => exact .inl ⟨m, .reads, rfl, h⟩
    | _ => cases h
  case inc m | dec m | slo m | rla m | sre m | rra m | dcp m | isb m => exact .inl ⟨m, .modifies, rfl, h⟩
  case asl t | lsr t | rol t | ror t =>
    cases t with
    | acc => cases h
    | mem m => exact .inl ⟨m, .modifies, rfl, h⟩
  case jmp t =>
    cases t with
    | abs a => cases h
    | ind p => exact .inr ⟨p, rfl, h⟩
  all_goals cases h

/-! ### The memory frames (O47, O48) -/

/-- The two memories. -/
def memories (s : State) : Memory × Memory := (s.cpuMem, s.ppuMem)

/-- No effect but a push touches a memory. -/
theorem courseOf_keeps_memories {i : Instr} (h : pushes i = 0) (v : Memory × Memory) :
    (courseOf i).Keeps (fun t => memories t = v) := by
  cases i
  case pha | php | jsr | brk => cases h
  all_goals simp [courseOf, memories, State.addToA, State.subFromA]

/-- An instruction that writes no operand and pushes nothing leaves both memories. -/
theorem run_memories {i : Instr} {s : State} (hpush : pushes i = 0) (hwrite : ∀ a, ¬(courseOf i).WritesAt s a) :
    memories ((courseOf i).run i s) = memories s := by
  refine Course.run_keeps_of_accesses (P := fun t => memories t = memories s) (fun a t _ h => ?_)
    (fun a _ _ ha _ => absurd ha (hwrite a)) (fun _ _ h => h) (courseOf_keeps_memories hpush _) ?_
  · simpa [memories] using h
  · obtain ⟨pc, hstart⟩ := (courseOf i).start_eq i s
    rw [hstart]
    rfl

/-- Settles O47: such an instruction writes at no address, and reads change no byte. -/
theorem nonStoringFrame : Obligations.NonStoringFrame := fun i s t hpush huse hexec a => by
  rw [exec_eq_course, Host.Outcome.next.injEq] at hexec
  subst hexec
  have hwrite : ∀ a, ¬(courseOf i).WritesAt s a := fun a ha => by
    obtain ⟨m, use, hm, hne, -⟩ := courseOf_writesAt ha
    exact hne (huse m use hm)
  obtain ⟨hcpu, hppu⟩ := Prod.mk.inj (run_memories hpush hwrite)
  exact ⟨congrArg (Memory.read · a) hcpu, congrArg (Memory.read · a) hppu⟩

end Sys2Proof.Machine

namespace Sys2Proof.Machine
open Sys2Proof.Claims

/-! ### What one write changes (R54, R56, R70) -/

/-- R56: a write changes no byte of `cpu_mem` but the one at its address, and none there when a register takes it. -/
theorem memWrite_cpuMem_frame {ea : Addr} (v : Byte) (s : State) {a : Nat}
    (h : a ≠ ea.toNat ∨ (0x2000 ≤ a ∧ a ≤ 0x2007)) : (memWrite ea v s).cpuMem.read a = s.cpuMem.read a := by
  by_cases hea : a = ea.toNat
  · obtain ⟨hlo, hhi⟩ := h.resolve_left (not_not_intro hea)
    obtain ⟨r, hr⟩ := shimReg_of_window (hea ▸ hlo) (hea ▸ hhi)
    obtain ⟨_, _, _, hwrite⟩ := shimWrite_state r v s
    rw [memWrite_window hr, hwrite]
  · exact memWrite_read_other v s hea

theorem eq_of_shimReg_data {a : Addr} (h : shimReg a = some .data) : a = 0x2007 := by
  unfold shimReg at h
  split at h
  case h_8 ha => exact BitVec.eq_of_toNat_eq ha
  all_goals cases h

theorem ppuWrite_frame (p : PpuAddr) (v : Byte) (s : State) {a : Nat} (h : a ≠ p.toNat) :
    (ppuWrite p v s).ppuMem.read a = s.ppuMem.read a := by
  unfold ppuWrite
  split
  · rfl
  · exact Memory.read_write_other h v s.ppuMem

/-- R70, R71: a write changes a byte of the picture-unit space only through 0x2007, and then only the one at the pointer. -/
theorem memWrite_ppuMem_frame {ea : Addr} (v : Byte) (s : State) {a : Nat}
    (h : ea ≠ 0x2007 ∨ a ≠ s.shim.vramAddr.toNat) : (memWrite ea v s).ppuMem.read a = s.ppuMem.read a := by
  unfold memWrite
  split
  next r hr =>
    cases r
    case addr => simp only [shimWrite, writeAddr]; split <;> rfl
    case data => exact ppuWrite_frame _ v s (h.resolve_left (not_not_intro (eq_of_shimReg_data hr)))
    all_goals rfl
  next => split <;> rfl

/-- R71: a read of 0x2007 moves the pointer by one step. -/
theorem memRead_data_vramAddr (s : State) : (memRead 0x2007 s).2.shim.vramAddr = nextVram s := by
  change (readVramData s).2.shim.vramAddr = _
  simp only [readVramData, advanceVram_eq]
  split
  · split <;> rfl
  · rfl

/-! ### An instruction that stores or modifies (O48) -/

/-- Its course is a store or a modify of its memory operand, and its effect touches no memory. -/
theorem courseOf_storing {i : Instr} {m : Addressing} {use : Use} (hm : memoryUse i = some (m, use))
    (huse : use ≠ .reads) :
    (use = .stores ∧ ∃ value, courseOf i = .store m value) ∨
      (use = .modifies ∧ ∃ op effect, courseOf i = .modify (.mem m) op effect ∧
        ∀ v c t, memories (effect v c t) = memories t) := by
  cases i
  case sta | stx | sty | sax => cases hm; exact .inl ⟨rfl, _, rfl⟩
  case inc | dec | slo | rla | sre | rra | dcp | isb =>
    cases hm; exact .inr ⟨rfl, _, _, rfl, fun _ _ _ => rfl⟩
  case asl t | lsr t | rol t | ror t =>
    cases t with
    | acc => cases hm
    | mem m => cases hm; exact .inr ⟨rfl, _, _, rfl, fun _ _ _ => rfl⟩
  case lda o | ldx o | ldy o | adc o | sbc o | and o | ora o | eor o | cmp o | cpx o | cpy o =>
    cases o <;> cases hm; exact absurd rfl huse
  case nopU op o => cases o <;> cases hm; exact absurd rfl huse
  case bit | lax => cases hm; exact absurd rfl huse
  all_goals cases hm

/-- It leaves the memories that one write at its effective address leaves, from a state with the memories it began with;
if that address is 0x2007, the read of a modify has moved the pointer before. -/
theorem run_storing {i : Instr} {m : Addressing} {use : Use} (hm : memoryUse i = some (m, use)) (huse : use ≠ .reads)
    (s : State) :
    ∃ v u, memories ((courseOf i).run i s) = memories (memWrite (effective m s).ea v u) ∧ memories u = memories s ∧
      ((effective m s).ea = 0x2007 → u.shim.vramAddr = if use = .modifies then nextVram s else s.shim.vramAddr) := by
  obtain ⟨rfl, value, hc⟩ | ⟨rfl, op, effect, hc, heffect⟩ := courseOf_storing hm huse
  · refine ⟨value (advance i s), s, ?_, rfl, fun _ => rfl⟩
    rw [hc, Course.run, runStore_eq]
    rfl
  · refine ⟨(op (memRead (effective m s).ea s).1 s.p.c).1, (memRead (effective m s).ea s).2, ?_, by simp [memories],
      fun hea => by rw [hea]; exact memRead_data_vramAddr s⟩
    rw [hc, Course.run, runModify_eq]
    exact heffect _ _ _

/-- Settles O48: the frame of that one write. -/
theorem storingFrame : Obligations.StoringFrame := fun i s t m use hm huse hexec => by
  rw [exec_eq_course, Host.Outcome.next.injEq] at hexec
  subst hexec
  obtain ⟨v, u, hrun, hu, hptr⟩ := run_storing hm huse s
  obtain ⟨hcpu, hppu⟩ := Prod.mk.inj hrun
  obtain ⟨hcpu₀, hppu₀⟩ := Prod.mk.inj hu
  refine ⟨fun a ha => ?_, fun a ha => ?_⟩
  · rw [hcpu, memWrite_cpuMem_frame v u ha, hcpu₀]
  · have hother : (effective m s).ea ≠ 0x2007 ∨ a ≠ u.shim.vramAddr.toNat := by
      rw [or_iff_not_imp_left, not_ne_iff] at ha ⊢
      exact fun hea => hptr hea ▸ ha hea
    rw [hppu, memWrite_ppuMem_frame v u hother, hppu₀]

/-! ### The devices (O50) -/

/-- What no instruction writes at all (R80, R82): the reset latch, the line, the cartridge, the parameters, the script. -/
def fixedDevices (s : State) : Bool × Bool × Cartridge × Config × List (List HostEvent) :=
  (s.resetPending, s.irqLine, s.cart, s.config, s.hostEvents)

theorem effectOnly_fixedDevices : EffectOnly fixedDevices := fun _ _ _ _ _ _ _ _ => rfl

theorem courseOf_keeps_fixedDevices (i : Instr) (v : Bool × Bool × Cartridge × Config × List (List HostEvent)) :
    (courseOf i).Keeps (fun t => fixedDevices t = v) := by
  cases i <;> simp [courseOf, fixedDevices, State.addToA, State.subFromA]

theorem run_fixedDevices (i : Instr) (s : State) : fixedDevices ((courseOf i).run i s) = fixedDevices s :=
  effectOnly_fixedDevices.run_eq (courseOf_keeps_fixedDevices i _)

/-- What an access of the window alone can change (R63): the shim, the NMI latch, the draws, the picture-unit space. -/
def windowDevices (s : State) : Shim × Bool × Nat × Memory := (s.shim, s.nmiPending, s.draws, s.ppuMem)

theorem memWrite_windowDevices {a : Addr} (h : shimReg a = none) (v : Byte) (s : State) :
    windowDevices (memWrite a v s) = windowDevices s := by
  simp only [memWrite, h]
  split <;> rfl

/-- BRK takes its vector from outside the window (R410, R425). -/
theorem interruptEntry_irq_windowDevices (ret : Addr) (b : Bool) (s : State) :
    windowDevices (interruptEntry ret b irqVector s) = windowDevices s := by
  simp only [interruptEntry]
  rw [jumpThrough_plain (vector := irqVector) rfl rfl]
  simp [windowDevices]

theorem courseOf_keeps_windowDevices (i : Instr) (v : Shim × Bool × Nat × Memory) :
    (courseOf i).Keeps (fun t => windowDevices t = v) := by
  cases i
  case brk => exact fun t h => (interruptEntry_irq_windowDevices _ _ t).trans h
  all_goals simp [courseOf, windowDevices, State.addToA, State.subFromA]

/-- A course whose accesses all lie outside the window leaves what lies behind it. -/
theorem run_windowDevices {i : Instr} {s : State} (hread : ∀ a, (courseOf i).ReadsAt s a → shimReg a = none)
    (hwrite : ∀ a, (courseOf i).WritesAt s a → shimReg a = none) :
    windowDevices ((courseOf i).run i s) = windowDevices s := by
  refine Course.run_keeps_of_accesses (P := fun t => windowDevices t = windowDevices s) (fun a t ha h => ?_)
    (fun a v t ha h => (memWrite_windowDevices (hwrite a ha) v t).trans h) (fun _ _ h => h)
    (courseOf_keeps_windowDevices i _) ?_
  · rwa [memRead_plain (hread a ha)]
  · obtain ⟨pc, hstart⟩ := (courseOf i).start_eq i s
    rw [hstart]
    rfl

/-- Settles O50: the bus does not reach the first group; the second is reached through the window only. -/
theorem deviceFrame : Obligations.DeviceFrame := fun i s t hexec => by
  rw [exec_eq_course, Host.Outcome.next.injEq] at hexec
  subst hexec
  have hfixed := run_fixedDevices i s
  simp only [fixedDevices, Prod.mk.injEq] at hfixed
  obtain ⟨hreset, hirq, hcart, hconfig, hevents⟩ := hfixed
  refine ⟨hreset, hirq, hcart, hconfig, hevents, fun hd => effectOnly_run.run_eq (courseOf_keeps_run hd _),
    fun hdata hptr => ?_⟩
  have hread : ∀ a, (courseOf i).ReadsAt s a → shimReg a = none := fun a ha => by
    obtain ⟨m, use, hm, rfl⟩ | ⟨p, hi, hpair⟩ := courseOf_readsAt ha
    · exact hdata m use hm
    · obtain ⟨hlow, hhigh⟩ := hptr p hi
      obtain rfl | rfl := hpair
      · exact hlow
      · exact hhigh
  have hwrite : ∀ a, (courseOf i).WritesAt s a → shimReg a = none := fun a ha => by
    obtain ⟨m, use, hm, -, rfl⟩ := courseOf_writesAt ha
    exact hdata m use hm
  simpa only [windowDevices, Prod.mk.injEq] using run_windowDevices hread hwrite

end Sys2Proof.Machine

namespace Sys2Proof.Machine

/-! ### One step (O7, O51, O55) -/

/-- The cartridge, the parameters and the script, which no tick writes (R80). -/
def tickFixed (s : State) : Cartridge × Config × List (List HostEvent) := (s.cart, s.config, s.hostEvents)

theorem executeOne_tickFixed {s t : State} (h : executeOne s = .next t) : tickFixed t = tickFixed s := by
  simp only [executeOne, exec_eq_course, Host.Outcome.next.injEq] at h
  subst h
  have hfixed := run_fixedDevices (fetch s).instr (fetch s).state
  simp only [fixedDevices, Prod.mk.injEq] at hfixed
  simp [tickFixed, hfixed]

theorem boundary_tickFixed {s t : State} (h : boundary s = .next t) : tickFixed t = tickFixed s := by
  unfold boundary at h
  split at h
  · cases h; simp [tickFixed, serviceReset]
  split at h
  · cases h; simp [tickFixed, serviceNmi]
  split at h
  · cases h; simp [tickFixed, serviceIrq]
  · exact executeOne_tickFixed h

theorem tick_tickFixed {s t : State} (h : tick s = .next t) : tickFixed t = tickFixed s := by
  unfold tick at h
  split at h
  · cases h; rfl
  · split at h
    · cases h; rfl
    · exact boundary_tickFixed h

/-- Settles O51: every tick answers a next state, and keeps what the events before it left of the three. -/
theorem stepNeverStops : Obligations.StepNeverStops := fun s => by
  obtain ⟨t, ht, -⟩ := tick_script [] (deliver s)
  have hfixed := tick_tickFixed ht
  simp only [tickFixed, deliver_cart, deliver_config, deliver_hostEvents, Prod.mk.injEq] at hfixed
  exact ⟨t, ht, hfixed⟩

/-- The engine at a boundary that services nothing runs the instruction it fetches (R132, R133). -/
theorem tick_of_noRequest {t : State} (hb : AtBoundary t) (hn : NoRequest t) :
    tick t = exec (fetch t).instr (fetch t).state := by
  obtain ⟨hrun, hbudget⟩ := hb
  obtain ⟨hreset, hnmi, hirq⟩ := hn
  have hline : (t.irqLine && !t.p.i) = false := by
    obtain h | h := hirq <;> simp [h]
  simp only [tick, hrun, hbudget, lt_irrefl, boundary, hreset, hnmi, hline, executeOne, if_false, Bool.false_eq_true]

/-- R133: an instruction of one byte is fetched by one bus read. -/
theorem fetch_one {t : State} {i : Instr} (hd : decode [(memRead t.pc t).1] = .ok (i, []))
    (ha : i.admitted t.config.unofficial = true) : fetch t = { instr := i, state := (memRead t.pc t).2 } := by
  simp only [decode] at hd
  split at hd
  next hlen =>
    cases hd
    simp only [fetch, ha, hlen, if_true]
  all_goals contradiction

/-- R133: an instruction of two bytes is fetched by two bus reads, the second from the state the first left. -/
theorem fetch_two {t : State} {i : Instr}
    (hd : decode [(memRead t.pc t).1, (memRead (t.pc + 1) (memRead t.pc t).2).1] = .ok (i, []))
    (ha : i.admitted t.config.unofficial = true) :
    fetch t = { instr := i, state := (memRead (t.pc + 1) (memRead t.pc t).2).2 } := by
  simp only [decode] at hd
  split at hd
  next => cases hd
  next hlen h =>
    cases h
    cases hd
    rw [instrOf_admitted] at ha
    simp only [fetch, ha, hlen, if_true]
  next h => cases h
  next => cases hd

/-- R133: an instruction of three bytes is fetched by three bus reads, in order. -/
theorem fetch_three {t : State} {i : Instr}
    (hd : decode [(memRead t.pc t).1, (memRead (t.pc + 1) (memRead t.pc t).2).1,
      (memRead (t.pc + 2) (memRead (t.pc + 1) (memRead t.pc t).2).2).1] = .ok (i, []))
    (ha : i.admitted t.config.unofficial = true) :
    fetch t = { instr := i, state := (memRead (t.pc + 2) (memRead (t.pc + 1) (memRead t.pc t).2).2).2 } := by
  simp only [decode] at hd
  split at hd
  next => cases hd
  next h => cases h; cases hd
  next hlen h =>
    cases h
    cases hd
    rw [instrOf_admitted] at ha
    simp only [fetch, ha, hlen, if_true]
  next => cases hd

/-- Settles O7: the step is `exec` of what is fetched, and the fetch is as many reads as the instruction has bytes. -/
theorem stepRunsDecodedInstruction : Obligations.StepRunsDecodedInstruction := fun s hb hn => by
  have hstep : step s = exec (fetch (deliver s)).instr (fetch (deliver s)).state := tick_of_noRequest hb hn
  rw [hstep]
  exact ⟨fun i hd ha => by rw [fetch_one hd ha], fun i hd ha => by rw [fetch_two hd ha],
    fun i hd ha => by rw [fetch_three hd ha], fun i rest hw hd ha => by rw [fetch_plain hw hd ha]⟩

/-- One event alone in its batch. -/
theorem deliver_single {s : State} {e : HostEvent} {rest : List (List HostEvent)} (h : s.hostEvents = [e] :: rest) :
    deliver s = applyEvent e (s.setHostEvents rest) := by
  simp only [deliver, h, applyEvents]

/-- R452: a reset request sets the latch of a running engine. -/
theorem applyEvent_resetRequest_running {s : State} (h : s.run = .running) :
    applyEvent .resetRequest s = s.setResetPending true := by
  simp [applyEvent, h]

/-- R452: it leaves a halted engine as it is. -/
theorem applyEvent_resetRequest_halted {s : State} {reason : Fault} (h : s.run = .halted reason) :
    applyEvent .resetRequest s = s := by
  simp only [applyEvent, h, reduceCtorEq, decide_false, Bool.or_false]
  rfl

/-- Settles O55: each event is one change of the state. -/
theorem hostEvents : Obligations.HostEvents := fun s rest => by
  refine ⟨fun h hc => ?_, fun h hc => ?_, fun h => ?_, fun high h => ?_, fun h hr => ?_, fun reason h hr => ?_,
    fun h => by rw [deliver, h]⟩ <;> rw [deliver_single h]
  · simp only [applyEvent, vblankStart, State.setHostEvents_nmiPending, State.setHostEvents_shim, hc, Bool.or_true]
    rfl
  · simp only [applyEvent, vblankStart, State.setHostEvents_nmiPending, State.setHostEvents_shim, hc, Bool.or_false]
    rfl
  · rfl
  · rfl
  · exact applyEvent_resetRequest_running (s := s.setHostEvents rest) hr
  · exact applyEvent_resetRequest_halted (s := s.setHostEvents rest) hr

end Sys2Proof.Machine

namespace Sys2Proof.Machine

/-! ### The instruction-level step (O58) -/

/-- The state `k` ticks after a boundary has left `b`: the events before those ticks have happened, and nothing else. -/
def countdown (k : Nat) (b : State) : State :=
  ((applyEvents (b.hostEvents.take k).flatten b).setHostEvents (b.hostEvents.drop k)).setBudget (b.budget - k)

@[simp] theorem countdown_zero (b : State) : countdown 0 b = b := rfl

@[simp] theorem countdown_run (k : Nat) (b : State) : (countdown k b).run = b.run := by simp [countdown]

@[simp] theorem countdown_budget (k : Nat) (b : State) : (countdown k b).budget = b.budget - k := rfl

/-- One more tick before the count-down of a running engine. -/
theorem countdown_succ (k : Nat) (b : State) :
    countdown k ((deliver b).setBudget (b.budget - 1)) = countdown (k + 1) b := by
  cases he : b.hostEvents with
  | nil => simp [countdown, deliver_eq, he, Nat.sub_sub, Nat.add_comm 1 k]
  | cons batch rest => simp [countdown, deliver_eq, he, applyEvents_append, Nat.sub_sub, Nat.add_comm 1 k]

/-- A run goes on from the state that its first step answers. -/
theorem run_succ (M : Host.Core) {s t : M.State} (h : M.step s = .next t) (k : Nat) : M.run (k + 1) s = M.run k t := by
  rw [Host.Core.run, h]

/-- R131: as many ticks as the budget allows, counted down. -/
theorem run_countdown {b : State} (hr : b.run = .running) {k : Nat} (hk : k ≤ b.budget) :
    Sys2Proof.core.run k b = .next (countdown k b) := by
  induction k generalizing b with
  | zero => rfl
  | succ k ih =>
    have hstep : step b = .next ((deliver b).setBudget (b.budget - 1)) := step_countdown hr (by omega)
    rw [run_succ Sys2Proof.core hstep, ← countdown_succ]
    exact ih (by simpa using hr) (by simp only [State.setBudget_budget]; omega)

/-- R401, R132: only the instruction at the PC halts the engine; a service and an instruction with a descriptor leave it
running. -/
theorem boundary_halted_budget {s t : State} {reason : Fault} (hr : s.run = .running) (h : boundary s = .next t)
    (ht : t.run = .halted reason) : t.budget = s.budget := by
  unfold boundary at h
  split at h
  · cases h; simp [serviceReset, hr] at ht
  split at h
  · cases h; simp [serviceNmi, hr] at ht
  split at h
  · cases h; simp [serviceIrq, hr] at ht
  simp only [executeOne, exec_eq_course, Host.Outcome.next.injEq] at h
  subst h
  obtain hd | ⟨op, hop, -⟩ := fetch_instr s
  · rw [effectOnly_run.run_eq (courseOf_keeps_run hd _), fetch_run, hr] at ht
    cases ht
  · rw [hop]
    exact fetch_budget s

/-- With no budget left, a tick that leaves the engine halted leaves no budget. -/
theorem tick_halted_budget {s t : State} {reason : Fault} (h0 : s.budget = 0) (h : tick s = .next t)
    (ht : t.run = .halted reason) : t.budget = 0 := by
  unfold tick at h
  split at h
  next => cases h; exact h0
  next hr =>
    rw [if_neg (by omega)] at h
    rw [boundary_halted_budget hr h ht, h0]

/-- R154: with no budget left, `Step` is one tick, which leaves `b`, and the count-down of the budget of `b`. -/
theorem instructionStep_eq_countdown {s b : State} (h0 : s.budget = 0) (hs : step s = .next b) :
    instructionStep s = .next (countdown b.budget b) := by
  cases hb : b.run with
  | running => simpa [countdown] using instructionStep_running hs hb
  | halted reason =>
    have hbudget : b.budget = 0 := tick_halted_budget (by simpa using h0) hs hb
    rw [instructionStep_halted hs hb, hbudget, countdown_zero]

/-- The first tick, and then `k` ticks of the count-down. -/
theorem run_succ_countdown {s b : State} (h0 : s.budget = 0) (hs : step s = .next b) {k : Nat} (hk : k ≤ b.budget) :
    Sys2Proof.core.run (k + 1) s = .next (countdown k b) := by
  rw [run_succ Sys2Proof.core hs]
  cases hb : b.run with
  | running => exact run_countdown hb hk
  | halted reason =>
    have hbudget : b.budget = 0 := tick_halted_budget (by simpa using h0) hs hb
    obtain rfl : k = 0 := by omega
    rfl

/-- Settles O58: `Step` is the boundary's tick and the whole count-down. -/
theorem instructionStepRule : Obligations.InstructionStep := fun s hat => by
  obtain ⟨hr, h0⟩ := hat
  obtain ⟨b, hb, -⟩ := tick_script [] (deliver s)
  have hboundary : boundary (deliver s) = .next b := by
    simpa [tick, hr, h0] using hb
  have hend : countdown b.budget b =
      { applyEvents (b.hostEvents.take b.budget).flatten b with
        budget := 0, hostEvents := b.hostEvents.drop b.budget } := by
    simp only [countdown, Nat.sub_self]
    rfl
  refine ⟨b, hb, hboundary, fun k hk => ⟨_, run_succ_countdown h0 hb hk.le, ?_, ?_⟩, ?_⟩
  · cases hrun : b.run with
    | running => simpa using hrun
    | halted reason =>
      rw [tick_halted_budget (by simpa using h0) hb hrun] at hk
      cases hk
  · simpa using hk
  · refine ⟨hend ▸ instructionStep_eq_countdown h0 hb, hend ▸ run_succ_countdown h0 hb le_rfl, ?_, by simp⟩
    cases hrun : b.run with
    | running => exact .inl ⟨by simpa using hrun, rfl⟩
    | halted reason => exact .inr ⟨reason, by simpa using hrun⟩

/-! ### Events at boundaries only (O59) -/

/-- A run of `m + n` steps is one of `m` and then one of `n`. -/
theorem run_add (M : Host.Core) {m n : Nat} {s t : M.State} (h : M.run m s = .next t) :
    M.run (m + n) s = M.run n t := by
  induction m generalizing s with
  | zero =>
    cases h
    rw [Nat.zero_add]
  | succ m ih =>
    rw [Host.Core.run] at h
    split at h
    next s' hs => rw [Nat.succ_add, run_succ M hs]; exact ih h
    next => cases h
    next => cases h

/-- The events of a batch of the script come with those before them, if the script is empty otherwise. -/
theorem deliver_pending (pending : List HostEvent) (h : List (List HostEvent)) (s : State) :
    deliver ((applyEvents pending s).setHostEvents h) =
      (applyEvents (pending ++ h.headD []) s).setHostEvents h.tail := by
  simp [deliver_eq, applyEvents_append]

/-- One instruction-level step from a state in which the events `pending` have come since the last boundary left `s`: one
boundary from `s` that sees them and the next batch, and then the ticks of its budget, whose events come late. -/
theorem instructionStep_as_boundaryStep {s : State} (h0 : s.budget = 0) (pending : List HostEvent)
    (h : List (List HostEvent)) :
    ∃ (n : Nat) (u : State) (late : List HostEvent),
      boundaryStep (pending ++ h.headD []) s = .next u ∧ u.budget = 0 ∧
      h.headD [] ++ late = (h.take n).flatten ∧
      instructionStep ((applyEvents pending s).setHostEvents h) =
        .next ((applyEvents late u).setHostEvents (h.drop n)) ∧
      Sys2Proof.core.run n ((applyEvents pending s).setHostEvents h) =
        .next ((applyEvents late u).setHostEvents (h.drop n)) := by
  obtain ⟨b, hb, hb'⟩ := tick_script h.tail (applyEvents (pending ++ h.headD []) s)
  have hstep : step ((applyEvents pending s).setHostEvents h) = .next (b.setHostEvents h.tail) := by
    rw [step, deliver_pending, hb']
  have hbudget : ((applyEvents pending s).setHostEvents h).budget = 0 := by simpa using h0
  have hend : countdown b.budget (b.setHostEvents h.tail) =
      (applyEvents (h.tail.take b.budget).flatten (b.setBudget 0)).setHostEvents (h.drop (b.budget + 1)) := by
    simp [countdown, List.drop_tail]
  refine ⟨b.budget + 1, b.setBudget 0, (h.tail.take b.budget).flatten, by rw [boundaryStep, hb], rfl, ?_, ?_, ?_⟩
  · cases h <;> simp
  · rw [← hend]
    exact instructionStep_eq_countdown hbudget hstep
  · rw [← hend]
    exact run_succ_countdown hbudget hstep le_rfl

/-- `k` instruction-level steps, as `k` boundaries from `s` after the events of each, and the events that are still to be
seen. -/
theorem instructionRun_as_boundaryRun (k : Nat) {s : State} (h0 : s.budget = 0) (pending : List HostEvent)
    (h : List (List HostEvent)) :
    ∃ (n : Nat) (u : State) (batches : List (List HostEvent)) (late : List HostEvent),
      batches.length = k ∧ batches.flatten ++ late = pending ++ (h.take n).flatten ∧
      boundaryRun batches s = .next u ∧
      instructionCore.run k ((applyEvents pending s).setHostEvents h) =
        .next ((applyEvents late u).setHostEvents (h.drop n)) ∧
      Sys2Proof.core.run n ((applyEvents pending s).setHostEvents h) =
        .next ((applyEvents late u).setHostEvents (h.drop n)) := by
  induction k generalizing s pending h with
  | zero => exact ⟨0, s, [], pending, rfl, by simp, rfl, rfl, rfl⟩
  | succ k ih =>
    obtain ⟨n, u, late, hstep, hu, hevents, hinstr, hrun⟩ := instructionStep_as_boundaryStep h0 pending h
    obtain ⟨n', u', batches, late', hlen, hevents', hbatches, hinstr', hrun'⟩ := ih hu late (h.drop n)
    rw [List.drop_drop] at hinstr' hrun'
    refine ⟨n + n', u', (pending ++ h.headD []) :: batches, late', by simp [hlen], ?_, ?_, ?_, ?_⟩
    · rw [List.flatten_cons, List.append_assoc, hevents', List.take_add, List.flatten_append, ← hevents]
      simp only [List.append_assoc]
    · rw [boundaryRun, hstep]
      exact hbatches
    · rw [run_succ instructionCore hinstr]
      exact hinstr'
    · rw [run_add _ hrun]
      exact hrun'

/-- Settles O59: from no pending events. -/
theorem boundariesAdmitTickRuns : Obligations.BoundariesAdmitTickRuns := fun k s h0 => by
  obtain ⟨n, u, batches, late, hlen, hevents, hbatches, hinstr, hrun⟩ :=
    instructionRun_as_boundaryRun k (s := s.setHostEvents []) h0 [] s.hostEvents
  exact ⟨n, _, u, batches, late, hinstr, hrun, hlen, hevents, hbatches, rfl⟩

end Sys2Proof.Machine

namespace Sys2Proof.Machine

/-! ### Which images load (O56) -/

/-- R77: the bank counts that a mapper-0 image may have. -/
def Cartridge.CountsAllowed (c : Cartridge) : Prop :=
  (c.prgBanks.toNat = 1 ∨ c.prgBanks.toNat = 2) ∧ (c.chrBanks.toNat = 0 ∨ c.chrBanks.toNat = 1)

theorem countsAllowed_iff (c : Cartridge) :
    c.CountsAllowed ↔ (!(c.prgBanks == 1 || c.prgBanks == 2) || !(c.chrBanks == 0 || c.chrBanks == 1)) = false := by
  simp [Cartridge.CountsAllowed, BitVec.toNat_eq, or_iff_not_imp_left]

/-- R76: the mapper id is checked first. -/
theorem loadError_mapper {c : Cartridge} (h : c.mapperId ≠ 0) : loadError c = some (.mapperUnsupported c.mapperId) := by
  rw [loadError, if_pos h]

/-- R77: of a mapper-0 image the bank counts are checked next. -/
theorem loadError_bankCount {c : Cartridge} (h : c.mapperId = 0) (hc : ¬c.CountsAllowed) :
    loadError c = some (.imageUnsupported .bankCount) := by
  rw [countsAllowed_iff, Bool.not_eq_false] at hc
  simp only [loadError, h, hc, if_true, ne_eq, not_true_eq_false, if_false]

/-- R77: with counts in their sets, the length is checked. -/
theorem loadError_length {c : Cartridge} (h : c.mapperId = 0) (hc : c.CountsAllowed)
    (hl : ¬c.neededLength ≤ c.image.length) : loadError c = some (.imageUnsupported .length) := by
  rw [countsAllowed_iff] at hc
  simp only [loadError, h, hc, not_le.mp hl, if_true, ne_eq, not_true_eq_false, if_false, Bool.false_eq_true]

theorem loadError_none {c : Cartridge} (h : c.mapperId = 0) (hc : c.CountsAllowed)
    (hl : c.neededLength ≤ c.image.length) : loadError c = none := by
  rw [countsAllowed_iff] at hc
  simp only [loadError, h, hc, not_lt.mpr hl, ne_eq, not_true_eq_false, if_false, Bool.false_eq_true]

/-- An image that no check refuses is one of mapper 0, with bank counts in their sets, that holds its banks. -/
theorem of_loadError_none {c : Cartridge} (h : loadError c = none) :
    c.mapperId = 0 ∧ c.CountsAllowed ∧ c.neededLength ≤ c.image.length := by
  by_cases hid : c.mapperId = 0
  · by_cases hc : c.CountsAllowed
    · by_cases hl : c.neededLength ≤ c.image.length
      · exact ⟨hid, hc, hl⟩
      · simp [loadError_length hid hc hl] at h
    · simp [loadError_bankCount hid hc] at h
  · simp [loadError_mapper hid] at h

/-- The state after a load that does not fail. -/
def loaded (c : Cartridge) (s : State) : State :=
  { s with cart := c, cpuMem := projectProgram c s.cpuMem, ppuMem := projectPattern c s.ppuMem }

theorem loadRom_of_error {image : List Byte} {e : Fault} (h : loadError (parseHeader image) = some e) (s : State) :
    loadRom image s = .fault e := by
  simp only [loadRom, h]

theorem loadRom_of_none {image : List Byte} (h : loadError (parseHeader image) = none) (s : State) :
    loadRom image s = .next (loaded (parseHeader image) s) := by
  simp only [loadRom, h]
  rfl

/-- R75: the cartridge state of a mapper-0 image. -/
theorem parseHeader_of_mapper {image : List Byte} (h : (parseHeader image).mapperId = 0) :
    parseHeader image = { image := image, prgBanks := image.getD 4 0, chrBanks := image.getD 5 0, mapperId := 0 } :=
  congrArg (Cartridge.mk image (image.getD 4 0) (image.getD 5 0)) h

/-- Settles O56: the checks in their order. -/
theorem loadChecks : Obligations.LoadChecks := fun image s _ => by
  refine ⟨fun hid => ?_, fun hid hc _ => ?_, fun hid hc hl => ?_, fun hid hc _ => ⟨.bankCount, ?_⟩, fun hid hc hl => ?_⟩
  · exact loadRom_of_error (loadError_mapper (c := parseHeader image) hid) s
  · exact loadRom_of_error (loadError_bankCount (c := parseHeader image) hid hc) s
  · exact loadRom_of_error (loadError_length (c := parseHeader image) hid hc hl) s
  · exact loadRom_of_error (loadError_bankCount (c := parseHeader image) hid hc) s
  · refine ⟨projectProgram (parseHeader image) s.cpuMem, projectPattern (parseHeader image) s.ppuMem, ?_⟩
    rw [loadRom_of_none (loadError_none (c := parseHeader image) hid hc hl), loaded, parseHeader_of_mapper hid]

/-! ### Where the banks go (O57) -/

theorem programRom_length {c : Cartridge} (h : c.neededLength ≤ c.image.length) :
    c.programRom.length = 16384 * c.prgBanks.toNat := by
  simp only [Cartridge.neededLength, headerSize, prgBankSize] at h
  simp only [Cartridge.programRom, headerSize, prgBankSize, List.length_take, List.length_drop]
  omega

theorem patternRom_length {c : Cartridge} (h : c.neededLength ≤ c.image.length) :
    c.patternRom.length = 8192 * c.chrBanks.toNat := by
  simp only [Cartridge.neededLength, headerSize, prgBankSize, chrBankSize] at h
  simp only [Cartridge.patternRom, headerSize, prgBankSize, chrBankSize, List.length_take, List.length_drop]
  omega

/-- R74: the program-ROM follows the header. -/
theorem programRom_getD {c : Cartridge} {k : Nat} (hk : k < 16384 * c.prgBanks.toNat) :
    c.programRom.getD k 0 = c.image.getD (16 + k) 0 := by
  simp [Cartridge.programRom, headerSize, prgBankSize, List.getD_eq_getElem?_getD, hk]

/-- R74: the pattern-ROM follows the program-ROM. -/
theorem patternRom_getD {c : Cartridge} {k : Nat} (hk : k < 8192 * c.chrBanks.toNat) :
    c.patternRom.getD k 0 = c.image.getD (16 + 16384 * c.prgBanks.toNat + k) 0 := by
  simp [Cartridge.patternRom, headerSize, prgBankSize, chrBankSize, List.getD_eq_getElem?_getD, hk]

/-- `Memory.read_copy_inside` for a byte that is named by `getD`. -/
theorem read_copy_getD {size start k : Nat} {bytes : List Byte} {m : Memory} (hm : m.wf size = true)
    (h : start + bytes.length ≤ size) (hk : k < bytes.length) :
    (Memory.copy bytes start m).read (start + k) = bytes.getD k 0 := by
  rw [Memory.read_copy_inside hm h hk, List.getD_eq_getElem _ _ hk]

/-- R78: `cpu_mem` with one bank's bytes at each base. -/
def withBanks (lo hi : List Byte) (m : Memory) : Memory := Memory.copy hi 0xC000 (Memory.copy lo 0x8000 m)

section
variable {lo hi : List Byte} {m : Memory} {k : Nat}

theorem read_withBanks_low (hm : m.wf cpuMemSize = true) (hlo : lo.length = 0x4000) (hk : k < 0x4000) :
    (withBanks lo hi m).read (0x8000 + k) = lo.getD k 0 := by
  rw [withBanks, Memory.read_copy_outside _ (by omega),
    read_copy_getD hm (by rw [hlo, cpuMemSize]; omega) (by omega)]

theorem read_withBanks_high (hm : m.wf cpuMemSize = true) (hlo : lo.length = 0x4000) (hhi : hi.length = 0x4000)
    (hk : k < 0x4000) : (withBanks lo hi m).read (0xC000 + k) = hi.getD k 0 :=
  read_copy_getD (Memory.copy_wf hm (by rw [hlo, cpuMemSize]; omega)) (by rw [hhi, cpuMemSize]) (by omega)

theorem read_withBanks_below {a : Nat} (ha : a < 0x8000) : (withBanks lo hi m).read a = m.read a := by
  rw [withBanks, Memory.read_copy_outside _ (by omega), Memory.read_copy_outside _ (by omega)]

end

theorem projectProgram_one {c : Cartridge} (h : c.prgBanks.toNat = 1) (m : Memory) :
    projectProgram c m = withBanks c.programRom c.programRom m := by
  have hbanks : c.prgBanks = 1 := BitVec.eq_of_toNat_eq h
  simp [projectProgram, hbanks, withBanks]

theorem projectProgram_two {c : Cartridge} (h : c.prgBanks.toNat = 2) (m : Memory) :
    projectProgram c m = withBanks (c.programRom.take 0x4000) (c.programRom.drop 0x4000) m := by
  have hbanks : c.prgBanks = 2 := BitVec.eq_of_toNat_eq h
  simp [projectProgram, hbanks, withBanks, prgBankSize]

/-- R78: the addresses below the bases are left. -/
theorem projectProgram_below {c : Cartridge} (hc : c.CountsAllowed) (m : Memory) {a : Nat} (ha : a < 0x8000) :
    (projectProgram c m).read a = m.read a := by
  obtain ⟨h | h, -⟩ := hc
  · rw [projectProgram_one h, read_withBanks_below ha]
  · rw [projectProgram_two h, read_withBanks_below ha]

section
variable {c : Cartridge} {m : Memory} (hlen : c.neededLength ≤ c.image.length)
include hlen

/-- R78: one bank is read at both bases. -/
theorem read_projectProgram_one (hm : m.wf cpuMemSize = true) (h : c.prgBanks.toNat = 1) {k : Nat} (hk : k < 0x4000) :
    (projectProgram c m).read (0x8000 + k) = c.image.getD (16 + k) 0 ∧
      (projectProgram c m).read (0xC000 + k) = c.image.getD (16 + k) 0 := by
  have hrom : c.programRom.length = 0x4000 := by rw [programRom_length hlen, h]
  rw [projectProgram_one h, read_withBanks_low hm hrom hk, read_withBanks_high hm hrom hrom hk,
    programRom_getD (by omega)]
  exact ⟨rfl, rfl⟩

/-- R78: two banks are read in order. -/
theorem read_projectProgram_two (hm : m.wf cpuMemSize = true) (h : c.prgBanks.toNat = 2) {k : Nat} (hk : k < 0x8000) :
    (projectProgram c m).read (0x8000 + k) = c.image.getD (16 + k) 0 := by
  have hrom : c.programRom.length = 0x8000 := by rw [programRom_length hlen, h]
  have hlo : (c.programRom.take 0x4000).length = 0x4000 := by rw [List.length_take]; omega
  have hhi : (c.programRom.drop 0x4000).length = 0x4000 := by rw [List.length_drop]; omega
  rw [projectProgram_two h, ← programRom_getD (by omega)]
  by_cases hlow : k < 0x4000
  · rw [read_withBanks_low hm hlo hlow]
    simp [List.getD_eq_getElem?_getD, hlow]
  · obtain ⟨j, rfl⟩ : ∃ j, k = 0x4000 + j := ⟨k - 0x4000, by omega⟩
    rw [← Nat.add_assoc, read_withBanks_high hm hlo hhi (by omega)]
    simp [List.getD_eq_getElem?_getD]

/-- R79: a pattern bank is read from 0x0000 on. -/
theorem read_projectPattern_one (hm : m.wf ppuMemSize = true) (h : c.chrBanks.toNat = 1) {k : Nat} (hk : k < 0x2000) :
    (projectPattern c m).read k = c.image.getD (16 + 16384 * c.prgBanks.toNat + k) 0 := by
  have hbanks : c.chrBanks = 1 := BitVec.eq_of_toNat_eq h
  have hrom : c.patternRom.length = 0x2000 := by rw [patternRom_length hlen, h]
  have hread := read_copy_getD (start := 0) (k := k) hm (by rw [hrom, ppuMemSize]; omega) (by omega)
  rw [Nat.zero_add, patternRom_getD (by omega)] at hread
  simpa [projectPattern, hbanks] using hread

/-- R79: the addresses above pattern memory are left. -/
theorem projectPattern_above (hc : c.CountsAllowed) {a : Nat} (ha : 0x2000 ≤ a) :
    (projectPattern c m).read a = m.read a := by
  have hrom := patternRom_length hlen
  obtain ⟨-, hchr⟩ := hc
  unfold projectPattern
  split
  · exact Memory.read_copy_outside m (by omega)
  · rfl

end

/-- R79: without a pattern bank nothing is put in pattern memory. -/
theorem projectPattern_none {c : Cartridge} (h : c.chrBanks.toNat = 0) (m : Memory) : projectPattern c m = m := by
  have hbanks : c.chrBanks = 0 := BitVec.eq_of_toNat_eq h
  simp [projectPattern, hbanks]

/-- Settles O57: an image that loads holds its banks, and each bank is copied where R78 and R79 say. -/
theorem projections : Obligations.Projections := fun image s t hcpu hppu hload => by
  cases herr : loadError (parseHeader image) with
  | some e => simp [loadRom_of_error herr] at hload
  | none =>
    obtain ⟨-, hcounts, hlen⟩ := of_loadError_none herr
    rw [loadRom_of_none herr, Host.Outcome.next.injEq] at hload
    subst hload
    exact ⟨fun hprg k hk => read_projectProgram_one hlen hcpu hprg hk,
      fun hprg k hk => read_projectProgram_two hlen hcpu hprg hk,
      fun a ha => projectProgram_below hcounts _ ha,
      fun hchr k hk => read_projectPattern_one hlen hppu hchr hk,
      fun hchr a => congrArg (Memory.read · a) (projectPattern_none hchr _),
      fun a ha => projectPattern_above hlen hcounts ha⟩

end Sys2Proof.Machine

namespace Sys2Proof

/-! ### The operand bytes of an instruction (R101, R102) -/

@[simp] theorem loByte_word (lo hi : Byte) : loByte (word lo hi) = lo := BitVec.extractLsb'_append_eq_right

@[simp] theorem hiByte_word (lo hi : Byte) : hiByte (word lo hi) = hi := BitVec.extractLsb'_append_eq_left

/-- R7: a 16-bit value is its high byte followed by its low byte. -/
@[simp] theorem word_loByte_hiByte (w : Addr) : word (loByte w) (hiByte w) = w :=
  (BitVec.extractLsb'_append_extractLsb'_eq_extractLsb' rfl).trans BitVec.extractLsb'_eq_self

/-- The operand of the same mode with the bytes `b1` and `b2`, as many of them as the mode has. -/
def Addressing.withBytes (b1 b2 : Byte) : Addressing → Addressing
  | .zp _ => .zp b1
  | .zpx _ => .zpx b1
  | .zpy _ => .zpy b1
  | .abs _ => .abs (word b1 b2)
  | .abx _ => .abx (word b1 b2)
  | .aby _ => .aby (word b1 b2)
  | .izx _ => .izx b1
  | .izy _ => .izy b1

@[inherit_doc Addressing.withBytes]
def Source.withBytes (b1 b2 : Byte) : Source → Source
  | .imm _ => .imm b1
  | .mem m => .mem (m.withBytes b1 b2)

@[inherit_doc Addressing.withBytes]
def Target.withBytes (b1 b2 : Byte) : Target → Target
  | .acc => .acc
  | .mem m => .mem (m.withBytes b1 b2)

@[inherit_doc Addressing.withBytes]
def JumpTarget.withBytes (b1 b2 : Byte) : JumpTarget → JumpTarget
  | .abs _ => .abs (word b1 b2)
  | .ind _ => .ind (word b1 b2)

@[inherit_doc Addressing.withBytes]
def NopOperand.withBytes (b1 b2 : Byte) : NopOperand → NopOperand
  | .imp => .imp
  | .imm _ => .imm b1
  | .mem m => .mem (m.withBytes b1 b2)

/-- The instruction of the same row of the opcode table with the operand bytes `b1` and `b2`, as many of them as its mode has. -/
def Instr.withBytes (b1 b2 : Byte) : Instr → Instr
  | .lda o => .lda (o.withBytes b1 b2)
  | .ldx o => .ldx (o.withBytes b1 b2)
  | .ldy o => .ldy (o.withBytes b1 b2)
  | .adc o => .adc (o.withBytes b1 b2)
  | .sbc o => .sbc (o.withBytes b1 b2)
  | .and o => .and (o.withBytes b1 b2)
  | .ora o => .ora (o.withBytes b1 b2)
  | .eor o => .eor (o.withBytes b1 b2)
  | .cmp o => .cmp (o.withBytes b1 b2)
  | .cpx o => .cpx (o.withBytes b1 b2)
  | .cpy o => .cpy (o.withBytes b1 b2)
  | .sta m => .sta (m.withBytes b1 b2)
  | .stx m => .stx (m.withBytes b1 b2)
  | .sty m => .sty (m.withBytes b1 b2)
  | .bit m => .bit (m.withBytes b1 b2)
  | .inc m => .inc (m.withBytes b1 b2)
  | .dec m => .dec (m.withBytes b1 b2)
  | .lax m => .lax (m.withBytes b1 b2)
  | .sax m => .sax (m.withBytes b1 b2)
  | .slo m => .slo (m.withBytes b1 b2)
  | .rla m => .rla (m.withBytes b1 b2)
  | .sre m => .sre (m.withBytes b1 b2)
  | .rra m => .rra (m.withBytes b1 b2)
  | .dcp m => .dcp (m.withBytes b1 b2)
  | .isb m => .isb (m.withBytes b1 b2)
  | .asl t => .asl (t.withBytes b1 b2)
  | .lsr t => .lsr (t.withBytes b1 b2)
  | .rol t => .rol (t.withBytes b1 b2)
  | .ror t => .ror (t.withBytes b1 b2)
  | .bpl _ => .bpl b1
  | .bmi _ => .bmi b1
  | .bvc _ => .bvc b1
  | .bvs _ => .bvs b1
  | .bcc _ => .bcc b1
  | .bcs _ => .bcs b1
  | .bne _ => .bne b1
  | .beq _ => .beq b1
  | .jmp t => .jmp (t.withBytes b1 b2)
  | .jsr _ => .jsr (word b1 b2)
  | .nopU op o => .nopU op (o.withBytes b1 b2)
  | .sbcU _ => .sbcU b1
  | i => i

section
variable (b1 b2 : Byte)

/-! The mode stays, and with it whatever the mode fixes. -/

@[simp] theorem Addressing.mode_withBytes (m : Addressing) : (m.withBytes b1 b2).mode = m.mode := by cases m <;> rfl
@[simp] theorem Source.mode_withBytes (o : Source) : (o.withBytes b1 b2).mode = o.mode := by
  cases o with
  | imm b => rfl
  | mem m => exact m.mode_withBytes b1 b2
@[simp] theorem Target.mode_withBytes (t : Target) : (t.withBytes b1 b2).mode = t.mode := by
  cases t with
  | acc => rfl
  | mem m => exact m.mode_withBytes b1 b2
@[simp] theorem JumpTarget.mode_withBytes (t : JumpTarget) : (t.withBytes b1 b2).mode = t.mode := by cases t <;> rfl
@[simp] theorem NopOperand.mode_withBytes (o : NopOperand) : (o.withBytes b1 b2).mode = o.mode := by
  cases o with
  | mem m => exact m.mode_withBytes b1 b2
  | _ => rfl

@[simp] theorem Instr.mode_withBytes (i : Instr) : (i.withBytes b1 b2).mode = i.mode := by
  cases i <;> simp [Instr.withBytes, Instr.mode]

@[simp] theorem Instr.operandLength_withBytes (i : Instr) : (i.withBytes b1 b2).operandLength = i.operandLength := by
  simp only [Instr.operandLength, Instr.mode_withBytes]

@[simp] theorem Instr.wellFormed_withBytes (i : Instr) : (i.withBytes b1 b2).wellFormed = i.wellFormed := by
  cases i <;> simp [Instr.withBytes, Instr.wellFormed]

/-! The opcode stays. -/

@[simp] theorem Codes.mem_withBytes (c : Codes) (m : Addressing) : c.mem (m.withBytes b1 b2) = c.mem m := by
  cases m <;> rfl
@[simp] theorem Codes.source_withBytes (c : Codes) (o : Source) : c.source (o.withBytes b1 b2) = c.source o := by
  cases o with
  | imm b => rfl
  | mem m => exact c.mem_withBytes b1 b2 m
@[simp] theorem Codes.target_withBytes (c : Codes) (t : Target) : c.target (t.withBytes b1 b2) = c.target t := by
  cases t with
  | acc => rfl
  | mem m => exact c.mem_withBytes b1 b2 m

@[simp] theorem opcode_withBytes (i : Instr) : opcode (i.withBytes b1 b2) = opcode i := by
  cases i
  case jmp t => cases t <;> rfl
  all_goals simp [Instr.withBytes, opcode]

/-! The operand bytes are the two given ones, as many as the mode has. -/

@[simp] theorem Addressing.bytes_withBytes (m : Addressing) :
    (m.withBytes b1 b2).bytes = [b1, b2].take m.mode.operandLength := by
  cases m <;> simp [withBytes, bytes, mode, Mode.operandLength, addrBytes]
@[simp] theorem Source.bytes_withBytes (o : Source) :
    (o.withBytes b1 b2).bytes = [b1, b2].take o.mode.operandLength := by
  cases o with
  | imm b => rfl
  | mem m => exact m.bytes_withBytes b1 b2
@[simp] theorem Target.bytes_withBytes (t : Target) :
    (t.withBytes b1 b2).bytes = [b1, b2].take t.mode.operandLength := by
  cases t with
  | acc => rfl
  | mem m => exact m.bytes_withBytes b1 b2
@[simp] theorem JumpTarget.bytes_withBytes (t : JumpTarget) :
    (t.withBytes b1 b2).bytes = [b1, b2].take t.mode.operandLength := by
  cases t <;> simp [withBytes, bytes, mode, Mode.operandLength, addrBytes]
@[simp] theorem NopOperand.bytes_withBytes (o : NopOperand) :
    (o.withBytes b1 b2).bytes = [b1, b2].take o.mode.operandLength := by
  cases o with
  | mem m => exact m.bytes_withBytes b1 b2
  | _ => rfl

@[simp] theorem operandBytes_withBytes (i : Instr) :
    operandBytes (i.withBytes b1 b2) = [b1, b2].take i.operandLength := by
  cases i <;> simp [Instr.withBytes, operandBytes, Instr.operandLength, Instr.mode, Mode.operandLength, addrBytes]

end

/-! An operand that has the given bytes already is left as it is. -/

section
variable {b1 b2 : Byte}

theorem word_of_addrBytes {a : Addr} (h : addrBytes a = [b1, b2]) : word b1 b2 = a := by
  cases h
  exact word_loByte_hiByte a

theorem Addressing.withBytes_self {m : Addressing} (h : m.bytes = [b1, b2].take m.mode.operandLength) :
    m.withBytes b1 b2 = m := by
  cases m
  case abs a | abx a | aby a => simp only [withBytes, word_of_addrBytes h]
  case zp b | zpx b | zpy b | izx b | izy b => simp only [withBytes, List.head_eq_of_cons_eq h]

theorem Source.withBytes_self {o : Source} (h : o.bytes = [b1, b2].take o.mode.operandLength) :
    o.withBytes b1 b2 = o := by
  cases o with
  | imm b => simp only [withBytes, List.head_eq_of_cons_eq h]
  | mem m => exact congrArg Source.mem (Addressing.withBytes_self h)

theorem Target.withBytes_self {t : Target} (h : t.bytes = [b1, b2].take t.mode.operandLength) :
    t.withBytes b1 b2 = t := by
  cases t with
  | acc => rfl
  | mem m => exact congrArg Target.mem (Addressing.withBytes_self h)

theorem JumpTarget.withBytes_self {t : JumpTarget} (h : t.bytes = [b1, b2].take t.mode.operandLength) :
    t.withBytes b1 b2 = t := by
  cases t
  case abs a | ind a => simp only [withBytes, word_of_addrBytes h]

theorem NopOperand.withBytes_self {o : NopOperand} (h : o.bytes = [b1, b2].take o.mode.operandLength) :
    o.withBytes b1 b2 = o := by
  cases o with
  | imp => rfl
  | imm b => simp only [withBytes, List.head_eq_of_cons_eq h]
  | mem m => exact congrArg NopOperand.mem (Addressing.withBytes_self h)

theorem Instr.withBytes_self {i : Instr} (h : operandBytes i = [b1, b2].take i.operandLength) :
    i.withBytes b1 b2 = i := by
  cases i
  case lda o | ldx o | ldy o | adc o | sbc o | and o | ora o | eor o | cmp o | cpx o | cpy o =>
    simp only [withBytes, Source.withBytes_self h]
  case sta m | stx m | sty m | bit m | inc m | dec m | lax m | sax m | slo m | rla m | sre m | rra m | dcp m | isb m =>
    simp only [withBytes, Addressing.withBytes_self h]
  case asl t | lsr t | rol t | ror t => simp only [withBytes, Target.withBytes_self h]
  case jmp t => simp only [withBytes, JumpTarget.withBytes_self h]
  case nopU op o => simp only [withBytes, NopOperand.withBytes_self h]
  case bpl b | bmi b | bvc b | bvs b | bcc b | bcs b | bne b | beq b | sbcU b =>
    simp only [withBytes, List.head_eq_of_cons_eq h]
  case jsr a => simp only [withBytes, word_of_addrBytes h]
  all_goals rfl

end

/-! ### The opcode map and the Encoding lines agree (R104 against R105, R106, R107) -/

/-- R331: the opcode map has an undocumented NOP of the listed mode at each listed opcode. -/
theorem instrOf_nopForms {op : Byte} {o : NopOperand} (h : (op, o.mode) ∈ nopForms) (b1 b2 : Byte) :
    instrOf op b1 b2 = .nopU op (o.withBytes b1 b2) := by
  have hrows : (nopForms.filter (·.2 == o.mode)).map (fun f => instrOf f.1 b1 b2) =
      (nopForms.filter (·.2 == o.mode)).map (fun f => .nopU f.1 (o.withBytes b1 b2)) := by
    cases o with
    | mem m => cases m <;> rfl
    | _ => rfl
  exact List.map_inj_left.mp hrows (op, o.mode) (List.mem_filter.mpr ⟨h, beq_self_eq_true _⟩)

/-- R107: the opcode map has no descriptor at each listed opcode. -/
theorem instrOf_undefinedOpcodes {op : Byte} (h : op ∈ undefinedOpcodes) (b1 b2 : Byte) :
    instrOf op b1 b2 = .undefined op := by
  have hrows : undefinedOpcodes.map (instrOf · b1 b2) = undefinedOpcodes.map .undefined := rfl
  exact List.map_inj_left.mp hrows op h

/-- R100, R104: at the opcode of a well-formed instruction the opcode map has its row. The operands whose mode the mnemonic
does not have are excluded. -/
theorem instrOf_opcode {i : Instr} (h : i.wellFormed = true) (b1 b2 : Byte) :
    instrOf (opcode i) b1 b2 = i.withBytes b1 b2 := by
  cases i
  case lda o | adc o | sbc o | and o | ora o | eor o | cmp o =>
    cases o with
    | imm b => dsimp only [opcode, Codes.source]; rfl
    | mem m =>
      cases m
      case zpy => cases h
      all_goals dsimp only [opcode, Codes.source, Codes.mem]; rfl
  case ldx o =>
    cases o with
    | imm b => dsimp only [opcode, Codes.source]; rfl
    | mem m =>
      cases m
      case zpx | abx | izx | izy => cases h
      all_goals dsimp only [opcode, Codes.source, Codes.mem]; rfl
  case ldy o =>
    cases o with
    | imm b => dsimp only [opcode, Codes.source]; rfl
    | mem m =>
      cases m
      case zpy | aby | izx | izy => cases h
      all_goals dsimp only [opcode, Codes.source, Codes.mem]; rfl
  case cpx o | cpy o =>
    cases o with
    | imm b => dsimp only [opcode, Codes.source]; rfl
    | mem m =>
      cases m
      case zpx | zpy | abx | aby | izx | izy => cases h
      all_goals dsimp only [opcode, Codes.source, Codes.mem]; rfl
  case stx m =>
    cases m
    case zpx | abx | aby | izx | izy => cases h
    all_goals dsimp only [opcode, Codes.mem]; rfl
  case sty m =>
    cases m
    case zpy | abx | aby | izx | izy => cases h
    all_goals dsimp only [opcode, Codes.mem]; rfl
  case bit m =>
    cases m
    case zpx | zpy | abx | aby | izx | izy => cases h
    all_goals dsimp only [opcode, Codes.mem]; rfl
  case inc m | dec m =>
    cases m
    case zpy | aby | izx | izy => cases h
    all_goals dsimp only [opcode, Codes.mem]; rfl
  case lax m =>
    cases m
    case zpx | abx => cases h
    all_goals dsimp only [opcode, Codes.mem]; rfl
  case sax m =>
    cases m
    case zpx | abx | aby | izy => cases h
    all_goals dsimp only [opcode, Codes.mem]; rfl
  case sta m | slo m | rla m | sre m | rra m | dcp m | isb m =>
    cases m
    case zpy => cases h
    all_goals dsimp only [opcode, Codes.mem]; rfl
  case asl t | lsr t | rol t | ror t =>
    cases t with
    | acc => rfl
    | mem m =>
      cases m
      case zpy | aby | izx | izy => cases h
      all_goals dsimp only [opcode, Codes.target, Codes.mem]; rfl
  case jmp t => cases t <;> (dsimp only [opcode]; rfl)
  case nopU op o => exact instrOf_nopForms (List.contains_iff_mem.mp h) b1 b2
  case undefined op => exact instrOf_undefinedOpcodes (List.contains_iff_mem.mp h) b1 b2
  all_goals dsimp only [opcode]; rfl

/-- R109: the opcode map, all 256 entries, has a well-formed instruction of each opcode. -/
theorem instrOf_zero_row (op : Byte) : (instrOf op 0 0).wellFormed = true ∧ opcode (instrOf op 0 0) = op := by
  revert op
  decide

/-- The operand bytes fill in the row that the opcode picks. -/
theorem instrOf_eq_withBytes (op b1 b2 : Byte) : instrOf op b1 b2 = (instrOf op 0 0).withBytes b1 b2 := by
  obtain ⟨hwf, hop⟩ := instrOf_zero_row op
  rw [← instrOf_opcode hwf, hop]

theorem instrOf_wellFormed (op b1 b2 : Byte) : (instrOf op b1 b2).wellFormed = true := by
  rw [instrOf_eq_withBytes, Instr.wellFormed_withBytes]
  exact (instrOf_zero_row op).1

theorem opcode_instrOf (op b1 b2 : Byte) : opcode (instrOf op b1 b2) = op := by
  rw [instrOf_eq_withBytes, opcode_withBytes]
  exact (instrOf_zero_row op).2

theorem encode_instrOf (op b1 b2 : Byte) :
    encode (instrOf op b1 b2) = op :: [b1, b2].take (instrOf op 0 0).operandLength := by
  rw [encode, opcode_instrOf, instrOf_eq_withBytes, operandBytes_withBytes]

/-- A well-formed instruction is what the opcode map gives for its opcode and its operand bytes. -/
theorem instrOf_self {i : Instr} {b1 b2 : Byte} (h : i.wellFormed = true)
    (hbytes : operandBytes i = [b1, b2].take i.operandLength) : instrOf (opcode i) b1 b2 = i := by
  rw [instrOf_opcode h, Instr.withBytes_self hbytes]

/-- R101: no mode has more than two operand bytes. -/
theorem Instr.operandLength_le_two (i : Instr) : i.operandLength ≤ 2 := by
  unfold Instr.operandLength
  split
  next m _ => cases m <;> decide
  next => decide

theorem operandBytes_length (i : Instr) : (operandBytes i).length = i.operandLength := by
  have h := Machine.encode_length i
  rw [encode, List.length_cons, Instr.length] at h
  omega

end Sys2Proof

namespace Sys2Proof

/-! ### Decoding and encoding (O1 to O4) -/

theorem decode_of_operandLength_zero {op : Byte} (h : (instrOf op 0 0).operandLength = 0) (rest : List Byte) :
    decode (op :: rest) = .ok (instrOf op 0 0, rest) := by
  simp only [decode, h]

theorem decode_of_operandLength_one {op : Byte} (h : (instrOf op 0 0).operandLength = 1) (b1 : Byte)
    (rest : List Byte) : decode (op :: b1 :: rest) = .ok (instrOf op b1 0, rest) := by
  simp only [decode, h]

theorem decode_of_operandLength_two {op : Byte} (h : (instrOf op 0 0).operandLength = 2) (b1 b2 : Byte)
    (rest : List Byte) : decode (op :: b1 :: b2 :: rest) = .ok (instrOf op b1 b2, rest) := by
  simp only [decode, h]

/-- Settles O1: the opcode fixes how many bytes are read, and `instrOf` makes the instruction of them again. -/
theorem decodeInvertsEncode : Obligations.DecodeInvertsEncode := fun i rest h => by
  have hlen : (instrOf (opcode i) 0 0).operandLength = (operandBytes i).length := by
    rw [instrOf_opcode h, Instr.operandLength_withBytes, operandBytes_length]
  have hself : ∀ b1 b2, operandBytes i = [b1, b2].take (operandBytes i).length → instrOf (opcode i) b1 b2 = i :=
    fun b1 b2 hb => instrOf_self h (operandBytes_length i ▸ hb)
  have hle : (operandBytes i).length ≤ 2 := operandBytes_length i ▸ i.operandLength_le_two
  rw [encode]
  generalize operandBytes i = bytes at hlen hself hle
  match bytes with
  | [] => exact (decode_of_operandLength_zero hlen rest).trans (by rw [hself 0 0 rfl])
  | [b1] => exact (decode_of_operandLength_one hlen b1 rest).trans (by rw [hself b1 0 rfl])
  | [b1, b2] => exact (decode_of_operandLength_two hlen b1 b2 rest).trans (by rw [hself b1 b2 rfl])
  | _ :: _ :: _ :: _ => simp at hle

/-- Bytes that are an encoding and more decode to the instruction encoded. -/
theorem decode_of_encode {i : Instr} {bs rest : List Byte} (hbs : encode i ++ rest = bs) (h : i.wellFormed = true) :
    decode bs = .ok (i, rest) := hbs ▸ decodeInvertsEncode i rest h

/-- Settles O2: what is decoded is `instrOf` of the bytes read, and those are the bytes of its encoding. -/
theorem encodeInvertsDecode : Obligations.EncodeInvertsDecode := fun bs rest i h => by
  cases bs with
  | nil => cases h
  | cons op tail =>
    simp only [decode] at h
    split at h
    case h_1 hlen | h_2 hlen | h_3 hlen =>
      cases h
      exact ⟨instrOf_wellFormed _ _ _, by rw [encode_instrOf, hlen]; rfl⟩
    case h_4 => cases h

/-- R109: an opcode byte and two more decode to the instruction that `instrOf` makes of them. -/
theorem decode_cons_cons (op b1 b2 : Byte) (rest : List Byte) :
    decode (op :: b1 :: b2 :: rest) =
      .ok (instrOf op b1 b2, (op :: b1 :: b2 :: rest).drop (instrOf op b1 b2).length) := by
  have hbytes : encode (instrOf op b1 b2) ++ (op :: b1 :: b2 :: rest).drop (instrOf op b1 b2).length =
      op :: b1 :: b2 :: rest := by
    have hle := (instrOf op 0 0).operandLength_le_two
    rw [encode_instrOf, Instr.length, instrOf_operandLength op b1 b2, Nat.add_comm, List.drop_succ_cons]
    interval_cases (instrOf op 0 0).operandLength <;> rfl
  exact decode_of_encode hbytes (instrOf_wellFormed op b1 b2)

/-- R107: the opcodes without a descriptor are the listed ones. -/
theorem instrOf_hasDescriptor_eq_false (op : Byte) :
    (instrOf op 0 0).hasDescriptor = false ↔ op ∈ undefinedOpcodes := by
  constructor
  · intro h
    obtain ⟨hwf, hop⟩ := instrOf_zero_row op
    cases hi : instrOf op 0 0
    case undefined op' =>
      rw [hi] at hwf hop
      cases hop
      exact List.contains_iff_mem.mp hwf
    all_goals
      rw [hi] at h
      cases h
  · intro h
    rw [instrOf_undefinedOpcodes h]
    rfl

/-- The opcodes are counted half by half, so that each half is small enough to evaluate. -/
theorem countP_opcodes (p : Nat → Bool) :
    (List.range 256).countP p = (List.range 128).countP p + (List.range 128).countP (fun n => p (128 + n)) := by
  rw [show 256 = 128 + 128 from rfl, List.range_add, List.countP_append, List.countP_map]
  rfl

/-- Settles O3: the length by its mode, the list and the two counts by the opcode map. -/
theorem everyOpcodeDecodes : Obligations.EveryOpcodeDecodes := by
  refine ⟨fun op b1 b2 rest => ⟨instrOf op b1 b2, ?_, ?_, opcode_instrOf op b1 b2, decode_cons_cons op b1 b2 rest⟩,
    instrOf_hasDescriptor_eq_false, ?_, ?_⟩
  · exact Nat.le_add_right 1 _
  · exact Nat.add_le_add_left (instrOf op b1 b2).operandLength_le_two 1
  · rw [countP_opcodes]
    decide
  · rw [countP_opcodes]
    decide

/-- Settles O4: each word is the encoding of its instruction, by the Encoding lines. -/
theorem sampleWordsDecode : Obligations.SampleWordsDecode := by
  unfold Obligations.SampleWordsDecode
  and_intros <;> exact decode_of_encode rfl rfl

end Sys2Proof

namespace Sys2Proof.Machine

/-! ### The halt (O8) -/

/-- R133, R401: of an opcode that is not admitted no operand byte is read. -/
theorem fetch_unadmitted {t : State} (h : (instrOf (memRead t.pc t).1 0 0).admitted t.config.unofficial = false) :
    fetch t = { instr := .undefined (memRead t.pc t).1, state := (memRead t.pc t).2 } := by
  simp only [fetch, h, Bool.false_eq_true, if_false]

/-- What a halted engine keeps, whatever the other actors do (R401, R452). -/
def haltedPart (s : State) :
    RunState × (Byte × Byte × Byte × Byte × Addr × Status) × Nat × Memory × Memory × Cartridge × Bool :=
  (s.run, (s.a, s.x, s.y, s.sp, s.pc, s.p), s.budget, s.cpuMem, s.ppuMem, s.cart, s.resetPending)

/-- R452: a reset request to a halted engine does not set the latch. -/
theorem applyEvent_resetPending_of_halted (e : HostEvent) {s : State} {reason : Fault} (h : s.run = .halted reason) :
    (applyEvent e s).resetPending = s.resetPending := by
  cases e
  case resetRequest => rw [applyEvent_resetRequest_halted h]
  all_goals rfl

theorem applyEvents_resetPending_of_halted (es : List HostEvent) {s : State} {reason : Fault}
    (h : s.run = .halted reason) : (applyEvents es s).resetPending = s.resetPending := by
  induction es generalizing s with
  | nil => rfl
  | cons e es ih =>
    rw [applyEvents, ih (by simpa using h), applyEvent_resetPending_of_halted e h]

theorem deliver_haltedPart {s : State} {reason : Fault} (h : s.run = .halted reason) :
    haltedPart (deliver s) = haltedPart s := by
  have hreset : (deliver s).resetPending = s.resetPending := by
    rw [deliver_eq]
    exact applyEvents_resetPending_of_halted _ h
  simp [haltedPart, hreset]

/-- R131: the tick of a halted engine does nothing. -/
theorem step_of_halted {s : State} {reason : Fault} (h : s.run = .halted reason) : step s = .next (deliver s) := by
  simp only [step, tick, deliver_run, h]

/-- R401: the halt is for good. -/
theorem run_haltedPart {s : State} {reason : Fault} (h : s.run = .halted reason) (k : Nat) :
    ∃ t, Sys2Proof.core.run k s = .next t ∧ haltedPart t = haltedPart s := by
  induction k generalizing s with
  | zero => exact ⟨s, rfl, rfl⟩
  | succ k ih =>
    obtain ⟨t, hrun, ht⟩ := ih (s := deliver s) (by simpa using h)
    exact ⟨t, (run_succ Sys2Proof.core (step_of_halted h) k).trans hrun, ht.trans (deliver_haltedPart h)⟩

/-- R401: the instruction `undefined` does nothing but halt the engine. -/
theorem exec_undefined (op : Byte) (s : State) :
    exec (.undefined op) s = .next { s with run := .halted (.undefinedInstruction op s.pc) } := rfl

/-- Settles O8: the fetch of such an opcode gives `undefined`, which halts; a step of a halted engine is its events alone. -/
theorem undefinedOpcodeHalts : Obligations.UndefinedOpcodeHalts := by
  refine ⟨fun s hb hn hadm => ?_, exec_undefined, fun s reason k h => ?_⟩
  · have hstep : step s = exec (fetch (deliver s)).instr (fetch (deliver s)).state := tick_of_noRequest hb hn
    simp only [hstep, fetch_unadmitted hadm, exec_undefined, memRead_pc]
  · obtain ⟨t, hrun, ht⟩ := run_haltedPart h k
    simp only [haltedPart, Prod.mk.injEq, h] at ht
    obtain ⟨hhalt, ⟨ha, hx, hy, hsp, hpc, hp⟩, hbudget, hcpu, hppu, hcart, hreset⟩ := ht
    exact ⟨t, hrun, hhalt, ha, hx, hy, hsp, hpc, hp, hbudget, hcpu, hppu, hcart, hreset⟩

end Sys2Proof.Machine

namespace Sys2Proof.Machine
open Sys2Proof.Claims

/-! ### A step away from a boundary, and at one (O6, O10, O14) -/

/-- R131: with no budget left, the tick of a running engine is the boundary. -/
theorem tick_of_atBoundary {t : State} (h : AtBoundary t) : tick t = boundary t := by
  obtain ⟨hrun, hbudget⟩ := h
  simp only [tick, hrun, hbudget, Nat.lt_irrefl, if_false]

theorem step_of_atBoundary {s : State} (h : AtBoundary (deliver s)) : step s = boundary (deliver s) :=
  tick_of_atBoundary h

/-- Settles O6: the events before the tick change neither the run state nor the budget, which decide what the tick is. -/
theorem tickRule : Obligations.TickRule := fun s =>
  ⟨fun _ h => step_of_halted h,
   fun hrun hpos => step_countdown hrun (Nat.succ_pred_eq_of_pos hpos).symm,
   fun hrun h0 => step_of_atBoundary ⟨by simpa using hrun, by simpa using h0⟩⟩

/-- R132: a reset request is serviced whatever else is pending. -/
theorem boundary_of_reset {t : State} (hreset : t.resetPending = true) :
    boundary t = .next { serviceReset t with budget := 6 } := by
  rw [boundary, if_pos hreset]
  rfl

/-- R132: an NMI request is serviced when no reset is pending. -/
theorem boundary_of_nmi {t : State} (hreset : t.resetPending = false) (hnmi : t.nmiPending = true) :
    boundary t = .next { serviceNmi t with budget := 6 } := by
  rw [boundary, if_neg (by simp [hreset]), if_pos hnmi]
  rfl

/-- R132: the line is serviced when it is high and unmasked, and no request is pending. -/
theorem boundary_of_irq {t : State} (hreset : t.resetPending = false) (hnmi : t.nmiPending = false)
    (hline : t.irqLine = true) (hi : t.p.i = false) : boundary t = .next { serviceIrq t with budget := 6 } := by
  rw [boundary, if_neg (by simp [hreset]), if_neg (by simp [hnmi]), if_pos (by simp [hline, hi])]
  rfl

/-- Settles O10: clause by clause, the branch of the boundary. -/
theorem boundaryPriority : Obligations.BoundaryPriority := fun s hat => by
  rw [step_of_atBoundary hat]
  exact ⟨boundary_of_reset, boundary_of_nmi, boundary_of_irq, fun hreset hnmi hline =>
    (tick_of_atBoundary hat).symm.trans (tick_of_noRequest hat ⟨hreset, hnmi, hline⟩)⟩

/-- Settles O14: `k` ticks of the count-down deliver events, which reach none of the parts named. -/
theorem countdownReachesBoundary : Obligations.CountdownReachesBoundary := fun s k hrun hk =>
  ⟨countdown k s, run_countdown hrun hk, by simpa using hrun, by simp [countdown]⟩

end Sys2Proof.Machine

namespace Sys2Proof.Machine
open Sys2Proof.Claims

/-! ### Addresses as numbers (R7, R102) -/

theorem toNat_hiByte (w : Addr) : (hiByte w).toNat = w.toNat / 256 := by
  have := w.isLt
  simp only [hiByte, BitVec.extractLsb'_toNat, Nat.shiftRight_eq_div_pow]
  omega

theorem toNat_loByte (w : Addr) : (loByte w).toNat = w.toNat % 256 := by
  simp [loByte]

theorem toNat_zext (b : Byte) : (zext b).toNat = b.toNat := by
  have := b.isLt
  simp only [zext, BitVec.toNat_setWidth]
  omega

theorem hiByte_ne (v w : Addr) : (hiByte v != hiByte w) = decide (v.toNat / 256 ≠ w.toNat / 256) := by
  rw [← toNat_hiByte, ← toNat_hiByte, Bool.eq_iff_iff]
  simp [← BitVec.toNat_inj]

/-- R101: a 16-bit operand is encoded low byte first. -/
theorem addrBytes_eq (a : Addr) : addrBytes a = [BitVec.ofNat 8 (a.toNat % 256), BitVec.ofNat 8 (a.toNat / 256)] := by
  rw [← toNat_loByte, ← toNat_hiByte]
  simp [addrBytes]

/-- R141: the page of a zero-page address is 0. -/
theorem zext_eq (b : Byte) : zext b = BitVec.ofNat 16 b.toNat := by
  rw [← toNat_zext, BitVec.ofNat_toNat, BitVec.setWidth_eq]

/-- R146, R147, R150: the index is added modulo 2^16, and the flag compares the pages. -/
theorem Effective.indexed_eq (base : Addr) (index : Byte) (s : State) :
    Effective.indexed base index s =
      { ea := BitVec.ofNat 16 ((base.toNat + index.toNat) % 65536)
        cross := decide ((base.toNat + index.toNat) % 65536 / 256 ≠ base.toNat / 256)
        state := s } := by
  have hea : (base + zext index).toNat = (base.toNat + index.toNat) % 65536 := by
    rw [BitVec.toNat_add, toNat_zext]
  rw [indexed, hiByte_ne, hea, ← hea, BitVec.ofNat_toNat, BitVec.setWidth_eq]

/-- R7: a pair of bytes as a number. -/
theorem word_eq (lo hi : Byte) : word lo hi = BitVec.ofNat 16 (lo.toNat + 256 * hi.toNat) := by
  rw [Nat.add_comm, Nat.mul_comm, ← toNat_word, BitVec.ofNat_toNat, BitVec.setWidth_eq]

/-- R136: both bytes of a zero-page pointer are read in the zero page. -/
theorem read16Zp_eq (z : Byte) (s : State) :
    read16Zp z s =
      (word (s.cpuMem.read (z.toNat % 256)) (s.cpuMem.read ((z.toNat + 1) % 256)), s) := by
  rw [read16Zp_plain, toNat_zext, toNat_zext, BitVec.toNat_add, Nat.mod_eq_of_lt z.isLt]
  rfl

/-! ### The pointer modes (O42) -/

/-- Settles O42: the pointer is `read16Zp_eq`'s, and the index of (zp),Y is added as `Effective.indexed_eq` says. -/
theorem pointerModes : Obligations.PointerModes := fun b s => by
  refine ⟨rfl, rfl, ?_, ?_⟩
  · simp only [effective, Effective.fixed, read16Zp_eq, word_eq, BitVec.toNat_add, Nat.mod_mod, Nat.mod_add_mod]
  · simp only [effective, read16Zp_eq, Effective.indexed_eq, toNat_word, Nat.add_comm, Nat.mul_comm]

end Sys2Proof.Machine

namespace Sys2Proof.Machine
open Sys2Proof.Claims

/-! ### Jumps (O26) -/

/-- R269: JMP goes where its operand resolves to. -/
theorem exec_jmp (t : JumpTarget) (s : State) : JumpsTo (.jmp t) s 0 (resolveJump t s).1 (resolveJump t s).2 := rfl

/-- Settles O26: the operand resolves to itself, or to the pair that `read16Bug` reads (R137, R148). -/
theorem jumps : Obligations.Jumps := fun a s =>
  ⟨rfl, rfl, rfl, rfl, exec_jmp (.abs a) s, exec_jmp (.ind a) s⟩

end Sys2Proof.Machine

namespace Sys2Proof

/-! ### What the opcode fixes: the base cycles and the memory operand's mode (R103, R470) -/

/-- The modes whose index can reach another page (R146, R147, R150). -/
def Addressing.mayCross (m : Addressing) : Bool := [Mode.abx, .aby, .izy].contains m.mode

section
variable (b1 b2 : Byte)

@[simp] theorem Addressing.readCycles_withBytes (m : Addressing) : (m.withBytes b1 b2).readCycles = m.readCycles := by
  cases m <;> rfl
@[simp] theorem Addressing.storeCycles_withBytes (m : Addressing) :
    (m.withBytes b1 b2).storeCycles = m.storeCycles := by
  cases m <;> rfl
@[simp] theorem Addressing.rmwCycles_withBytes (m : Addressing) : (m.withBytes b1 b2).rmwCycles = m.rmwCycles := by
  cases m <;> rfl
@[simp] theorem Source.cycles_withBytes (o : Source) : (o.withBytes b1 b2).cycles = o.cycles := by
  cases o with
  | imm b => rfl
  | mem m => exact m.readCycles_withBytes b1 b2
@[simp] theorem Target.cycles_withBytes (t : Target) : (t.withBytes b1 b2).cycles = t.cycles := by
  cases t with
  | acc => rfl
  | mem m => exact m.rmwCycles_withBytes b1 b2
@[simp] theorem NopOperand.cycles_withBytes (o : NopOperand) : (o.withBytes b1 b2).cycles = o.cycles := by
  cases o with
  | mem m => exact m.readCycles_withBytes b1 b2
  | _ => rfl

@[simp] theorem Instr.baseCycles_withBytes (i : Instr) : (i.withBytes b1 b2).baseCycles = i.baseCycles := by
  cases i
  case jmp t => cases t <;> rfl
  all_goals simp [Instr.withBytes, Instr.baseCycles]

@[simp] theorem Instr.hasDescriptor_withBytes (i : Instr) : (i.withBytes b1 b2).hasDescriptor = i.hasDescriptor := by
  cases i <;> rfl

@[simp] theorem Addressing.mayCross_withBytes (m : Addressing) : (m.withBytes b1 b2).mayCross = m.mayCross := by
  simp only [Addressing.mayCross, Addressing.mode_withBytes]

/-- The use of the operand stays, and its mode. -/
theorem memoryUse_withBytes (i : Instr) :
    Machine.memoryUse (i.withBytes b1 b2) = (Machine.memoryUse i).map (Prod.map (Addressing.withBytes b1 b2) id) := by
  cases i
  case lda o | ldx o | ldy o | adc o | sbc o | and o | ora o | eor o | cmp o | cpx o | cpy o => cases o <;> rfl
  case asl t | lsr t | rol t | ror t => cases t <;> rfl
  case nopU op o => cases o <;> rfl
  all_goals rfl

end

end Sys2Proof

namespace Sys2Proof.Machine
open Sys2Proof.Claims

/-! ### The direct modes (O41) -/

/-- Only the opcodes of LDX, STX, LAX and SAX have the mode indexed by Y in the zero page (R143). -/
theorem opcode_of_zpy {op b : Byte} {u : Use} (h : memoryUse (instrOf op 0 0) = some (.zpy b, u)) :
    op ∈ [0xB6#8, 0x96, 0xB7, 0x97] := by
  have hmap : ∀ op : Byte, (memoryUse (instrOf op 0 0)).map (·.1.mode) = some .zpy →
      op ∈ [0xB6#8, 0x96, 0xB7, 0x97] := by
    decide
  exact hmap op (by rw [h]; rfl)

/-- Settles O41: the helpers by definition, the modes by arithmetic, and the last clause by the opcode map. -/
theorem directModes : Obligations.DirectModes := by
  refine ⟨fun b v ea m s => ⟨rfl, rfl, rfl, rfl, rfl, rfl, rfl, rfl, rfl, rfl, rfl⟩, fun b a s => ?_,
    fun i b u hwf hm => ?_⟩
  · have zeroPage : ∀ x : Byte, zext (b + x) = BitVec.ofNat 16 ((b.toNat + x.toNat) % 256) := fun x => by
      rw [zext_eq, BitVec.toNat_add]
    exact ⟨rfl, rfl, rfl, addrBytes_eq a, rfl, rfl,
      congrArg (Effective.fixed · s) (zext_eq b),
      congrArg (Effective.fixed · s) (zeroPage s.x),
      congrArg (Effective.fixed · s) (zeroPage s.y),
      rfl, rfl, Effective.indexed_eq a s.x s, Effective.indexed_eq a s.y s⟩
  · refine opcode_of_zpy (b := 0) (u := u) ?_
    rw [instrOf_opcode hwf, memoryUse_withBytes, hm]
    rfl

/-! ### The cost of an instruction (O5) -/

/-- The instruction pays for a page cross: it reads its operand, in such a mode (R151). -/
def paysCross (i : Instr) : Bool :=
  match memoryUse i with
  | some (m, .reads) => m.mayCross
  | _ => false

theorem paysCross_withBytes (b1 b2 : Byte) (i : Instr) : paysCross (i.withBytes b1 b2) = paysCross i := by
  unfold paysCross
  rw [memoryUse_withBytes]
  rcases memoryUse i with _ | ⟨m, u⟩
  · rfl
  · cases u
    case reads => exact m.mayCross_withBytes b1 b2
    all_goals rfl

/-- An opcode has its row among these, and the count there is positive. -/
abbrev HasCycleRow (rows : List (Byte × Nat × Bool)) (op : Byte) : Prop :=
  (op, (instrOf op 0 0).baseCycles, paysCross (instrOf op 0 0)) ∈ rows ∧ 0 < (instrOf op 0 0).baseCycles

/-- R470 against R104: every opcode that has a descriptor has its row. Each is searched for among the rows of its line of the
opcode map only, which keeps the evaluation short. -/
theorem instrOf_cycleRow (op : Byte) (h : (instrOf op 0 0).hasDescriptor = true) : HasCycleRow cycleTable op := by
  have hline : ∀ hi lo : Fin 16, (instrOf (BitVec.ofNat 8 (16 * hi + lo)) 0 0).hasDescriptor = true →
      HasCycleRow (cycleTable.filter fun row => row.1.toNat / 16 == hi) (BitVec.ofNat 8 (16 * hi + lo)) := by
    decide
  have hop := op.isLt
  have hrow := hline ⟨op.toNat / 16, by omega⟩ ⟨op.toNat % 16, by omega⟩
  simp only [Nat.div_add_mod, BitVec.ofNat_toNat, BitVec.setWidth_eq] at hrow
  obtain ⟨hmem, hpos⟩ := hrow h
  exact ⟨List.mem_of_mem_filter hmem, hpos⟩

/-- R470: the table has the base cycles of every instruction, and a `+` for those that pay for a page cross. -/
theorem cycleRow_mem {i : Instr} (hwf : i.wellFormed = true) (hd : i.hasDescriptor = true) :
    (opcode i, i.baseCycles, paysCross i) ∈ cycleTable ∧ 0 < i.baseCycles := by
  have hrow := instrOf_cycleRow (opcode i)
  rw [HasCycleRow, instrOf_opcode hwf, Instr.hasDescriptor_withBytes, Instr.baseCycles_withBytes, paysCross_withBytes] at hrow
  exact hrow hd

/-- What a course pays beyond the base cycles (R151, R152). -/
def Course.extra (c : Course) (i : Instr) (s : State) : Nat :=
  match c with
  | .read o _ => penalty (resolveSource o s).cross
  | .branch cond rel =>
    if cond s.p then 1 + penalty (hiByte (branchTarget s.pc rel) != hiByte (advance i s).pc) else 0
  | _ => 0

/-- R133, R153: a course that does not halt leaves the budget of its base cycles and what it pays beyond them. -/
theorem Course.run_budget {c : Course} (hc : ∀ op, c ≠ .halt op) (i : Instr) (s : State) :
    (c.run i s).budget = i.baseCycles + c.extra i s - 1 := by
  cases c
  case halt op => exact absurd rfl (hc op)
  case branch cond rel =>
    simp only [run, runBranch, extra]
    split <;> rfl
  all_goals rfl

theorem courseOf_ne_halt {i : Instr} (hd : i.hasDescriptor = true) (op : Byte) : courseOf i ≠ .halt op := by
  cases i
  case undefined => cases hd
  case nopU op o => cases o <;> nofun
  all_goals nofun

/-- A mode that adds no index, or adds it in the zero page, crosses no page (R141 to R145, R149). -/
theorem effective_cross_of_not_mayCross {m : Addressing} (h : m.mayCross = false) (s : State) :
    (effective m s).cross = false := by
  cases m
  case abx | aby | izy => cases h
  all_goals rfl

/-- R151: so a read pays the penalty of its operand, whether or not its row has a `+`. -/
theorem penalty_effective (m : Addressing) (s : State) :
    penalty (effective m s).cross = if m.mayCross then (if (effective m s).cross then 1 else 0) else 0 := by
  cases h : m.mayCross
  · rw [effective_cross_of_not_mayCross h]
    rfl
  · rfl

theorem penalty_bne {α : Type} [DecidableEq α] (a b : α) : penalty (a != b) = if a = b then 0 else 1 := by
  by_cases h : a = b <;> simp [penalty, h]

/-- R151, R152: what the course of an instruction pays beyond its base cycles. -/
theorem courseOf_extra (i : Instr) (s : State) :
    (courseOf i).extra i s = (if paysCross i then operandCross i s else 0) + branchExtra i s := by
  cases i
  case lda o | ldx o | ldy o | adc o | sbc o | and o | ora o | eor o | cmp o | cpx o | cpy o =>
    cases o with
    | imm b => rfl
    | mem m => exact penalty_effective m s
  case bit m | lax m => exact penalty_effective m s
  case nopU op o =>
    cases o with
    | mem m => exact penalty_effective m s
    | _ => rfl
  case bpl | bmi | bvc | bvs | bcc | bcs | bne | beq =>
    simp only [courseOf, Course.extra, penalty_bne]
    exact (Nat.zero_add _).symm
  case asl t | lsr t | rol t | ror t => cases t <;> rfl
  all_goals rfl

/-- Settles O5: the row of the table gives the base cycles, and the course adds what it pays beyond them. -/
theorem costOfInstruction : Obligations.CostOfInstruction := fun i s hwf hd => by
  obtain ⟨hrow, hpos⟩ := cycleRow_mem hwf hd
  refine ⟨i.baseCycles, paysCross i, _, hrow, exec_eq_course i s, ?_⟩
  rw [Course.run_budget (courseOf_ne_halt hd), courseOf_extra]
  omega

end Sys2Proof.Machine

namespace Sys2Proof

/-! ### The Encoding lines: an opcode per mode (R105, R106) -/

/-- The opcode that a row of codes has for a mode. The modes that `Codes` has no field for get its filler. -/
def Codes.ofMode (c : Codes) : Mode → Byte
  | .acc => c.acc
  | .imm => c.imm
  | .zp => c.zp
  | .zpx => c.zpx
  | .zpy => c.zpy
  | .abs => c.abs
  | .abx => c.abx
  | .aby => c.aby
  | .izx => c.izx
  | .izy => c.izy
  | .imp | .rel | .ind => 0x02

theorem Codes.mem_eq_ofMode (c : Codes) (m : Addressing) : c.mem m = c.ofMode m.mode := by cases m <;> rfl

theorem Codes.source_eq_ofMode (c : Codes) (o : Source) : c.source o = c.ofMode o.mode := by
  cases o with
  | imm b => rfl
  | mem m => exact c.mem_eq_ofMode m

/-- An instruction whose modes and opcodes are given by its operand's mode has the Encoding line that lists each of the modes
with its opcode. -/
theorem hasForms_of_modes {α : Type} {mode : α → Mode} {f : α → Instr} {code : Mode → Byte} {codes : List (Mode × Byte)}
    (modes : List Mode) (hwf : ∀ o, (f o).wellFormed = modes.contains (mode o)) (hcode : ∀ o, opcode (f o) = code (mode o))
    (hcodes : codes = modes.map fun m => (m, code m)) : Claims.HasForms mode f codes := by
  have hmem : ∀ o c, (mode o, c) ∈ codes ↔ mode o ∈ modes ∧ code (mode o) = c := by simp [hcodes]
  refine fun o => ⟨fun c hc => ?_, fun hnone => ?_⟩
  · obtain ⟨hlisted, hc⟩ := (hmem o c).mp hc
    exact ⟨(hwf o).trans (List.contains_iff_mem.mpr hlisted), (hcode o).trans hc⟩
  · have hunlisted : mode o ∉ modes := fun hlisted => hnone _ ((hmem o _).mpr ⟨hlisted, rfl⟩)
    simpa [hwf] using hunlisted

end Sys2Proof

namespace Sys2Proof.Machine
open Sys2Proof.Claims

/-! ### The whole next state of a course, from its effect (R133) -/

@[simp] theorem operand_p (o : Source) (s : State) : (operand o s).2.p = s.p := by
  cases o <;> simp [operand, memOperand]

/-- R134: resolving a source operand and loading it gives the operand's byte and the state after reading it. -/
theorem load_resolveSource (o : Source) (s : State) : load (resolveSource o s).place s = operand o s := by
  cases o with
  | imm b => rfl
  | mem m => rw [operand, memOperand, effective_state]; rfl

/-- R151: the penalty is that of the operand. -/
theorem penalty_resolveSource (o : Source) (s : State) : penalty (resolveSource o s).cross = crossed o s := by
  cases o <;> rfl

section
variable {i : Instr} {s t : State}

/-- If the effect gives `t` wherever the PC is, then `t` is the whole next state, but for the PC and the budget. -/
theorem completes_implied {effect : State → State} (hi : courseOf i = .implied effect)
    (heffect : ∀ pc, effect (s.setPc pc) = t.setPc pc) : Completes i s 0 t := by
  rw [Completes, exec_eq_course, hi, Course.run, runImplied, advance, heffect, encode_length]
  rfl

/-- The effect of a read acts on the byte of the operand, in the state after reading it, and the penalty is the operand's. -/
theorem completes_read {o : Source} {effect : Byte → State → State} (hi : courseOf i = .read o effect)
    (heffect : ∀ pc, effect (operand o s).1 ((operand o s).2.setPc pc) = t.setPc pc) : Completes i s (crossed o s) t := by
  have hpc : (operand o s).2.pc = s.pc := by rw [← load_resolveSource, load_pc]
  rw [Completes, exec_eq_course, hi, Course.run, runRead_eq, load_resolveSource, penalty_resolveSource, advance, heffect,
    hpc, encode_length]
  rfl

/-- A store is one write of its value to the effective address, and nothing else: neither a flag nor a penalty. -/
theorem completes_store {m : Addressing} {value : State → Byte} (hi : courseOf i = .store m value)
    (hvalue : ∀ pc, value (s.setPc pc) = value s) : Completes i s 0 (memWrite (effective m s).ea (value s) s) := by
  have hadvance : value (advance i s) = value s := hvalue _
  rw [Completes, exec_eq_course, hi, Course.run, runStore_eq, hadvance, advance, memWrite_pc, encode_length]
  rfl

end

/-! ### Loads, stores and transfers (O15, O16, O17) -/

/-- Settles O15: the forms by their Encoding lines; the operand's read leaves P, from which Z and N are set. -/
theorem loads : Obligations.Loads := by
  refine ⟨hasForms_of_modes accumulatorModes (fun _ => rfl) ldaCodes.source_eq_ofMode rfl,
    hasForms_of_modes [.imm, .zp, .zpy, .abs, .aby] (fun _ => rfl) ldxCodes.source_eq_ofMode rfl,
    hasForms_of_modes [.imm, .zp, .zpx, .abs, .abx] (fun _ => rfl) ldyCodes.source_eq_ofMode rfl, fun o s => ?_⟩
  rw [← operand_p o s]
  exact ⟨completes_read rfl fun _ => rfl, completes_read rfl fun _ => rfl, completes_read rfl fun _ => rfl⟩

/-- Settles O16: the forms by their Encoding lines; no register's value depends on the PC, which is advanced before the write. -/
theorem stores : Obligations.Stores :=
  ⟨hasForms_of_modes comboModes (fun _ => rfl) staCodes.mem_eq_ofMode rfl,
    hasForms_of_modes [.zp, .zpy, .abs] (fun _ => rfl) stxCodes.mem_eq_ofMode rfl,
    hasForms_of_modes [.zp, .zpx, .abs] (fun _ => rfl) styCodes.mem_eq_ofMode rfl, fun _ _ =>
    ⟨completes_store rfl fun _ => rfl, completes_store rfl fun _ => rfl, completes_store rfl fun _ => rfl⟩⟩

/-- Settles O17: the Encoding lines by definition; each effect commutes with moving the PC, and TXS's alone sets no flag. -/
theorem transfers : Obligations.Transfers :=
  ⟨rfl, rfl, rfl, rfl, rfl, rfl, fun _ =>
    ⟨completes_implied rfl fun _ => rfl, completes_implied rfl fun _ => rfl, completes_implied rfl fun _ => rfl,
      completes_implied rfl fun _ => rfl, completes_implied rfl fun _ => rfl, completes_implied rfl fun _ => rfl⟩⟩

end Sys2Proof.Machine

namespace Sys2Proof.Machine
open Sys2Proof.Claims

/-! ### Byte arithmetic in numbers (R5, R200, R201) -/

section
variable (a m v : Byte) (c : Bool)

theorem signBit_eq_decide : v.getLsbD 7 = decide (128 ≤ v.toNat) :=
  v.msb_eq_getLsbD_last.symm.trans v.msb_eq_decide

/-- The conjunction with 0x80 keeps the sign bit alone, so it is not 0 exactly when that bit is 1. -/
theorem and_signBit_ne_zero : v &&& 0x80 ≠ 0 ↔ v.getLsbD 7 = true := by
  have hand : v &&& 0x80 = if v.getLsbD 7 then 0x80 else 0 := v.and_twoPow 7
  rw [hand]
  split <;> simp_all

theorem add_one_eq_ofNat : v + 1 = BitVec.ofNat 8 ((v.toNat + 1) % 256) := by
  apply BitVec.eq_of_toNat_eq
  simp

theorem sub_one_eq_ofNat : v - 1 = BitVec.ofNat 8 ((v.toNat + 255) % 256) := by
  apply BitVec.eq_of_toNat_eq
  simp [BitVec.toNat_sub, Nat.add_comm]

theorem ofInt_sub_toNat : BitVec.ofInt 8 ((a.toNat : Int) - m.toNat) = a - m := by
  apply BitVec.eq_of_toNat_eq
  rw [BitVec.toNat_ofInt, BitVec.toNat_sub]
  omega

/-- R200 in unbounded arithmetic. -/
theorem addWithCarry_eq :
    let sum := a.toNat + m.toNat + (if c then 1 else 0)
    let r := BitVec.ofNat 8 (sum % 256)
    addWithCarry a m c =
      ⟨r, decide (255 < sum), decide (a.getLsbD 7 = m.getLsbD 7 ∧ r.getLsbD 7 ≠ a.getLsbD 7)⟩ := by
  have hvalue (n : Nat) : BitVec.ofNat 8 (n % 256) = BitVec.ofNat 8 n := BitVec.eq_of_toNat_eq (by simp)
  have hcin : (if c then 1 else 0) = c.toNat := by cases c <;> rfl
  simp only [hvalue, hcin, Bool.decide_and, ne_eq, decide_not]
  rfl

/-- R201 in unbounded arithmetic. -/
theorem subWithBorrow_eq :
    let diff : Int := (a.toNat : Int) - (m.toNat : Int) - (if c then 0 else 1)
    let q := BitVec.ofNat 8 (diff % 256).toNat
    subWithBorrow a m c =
      ⟨q, decide (0 ≤ diff), decide (a.getLsbD 7 ≠ m.getLsbD 7 ∧ q.getLsbD 7 ≠ a.getLsbD 7)⟩ := by
  have hvalue (d : Int) : BitVec.ofNat 8 (d % 256).toNat = BitVec.ofInt 8 d := by
    apply BitVec.eq_of_toNat_eq
    rw [BitVec.toNat_ofInt, BitVec.toNat_ofNat]
    omega
  have hborrow : (if c then 0 else 1 : Int) = 1 - c.toNat := by cases c <;> rfl
  simp only [hvalue, hborrow, Bool.decide_and, ne_eq, decide_not]
  rfl

/-- R201: the complement of the operand is 255 minus it, so the two exact results differ by 256: the bytes agree, and a
difference that is not negative is a sum above 255. -/
theorem subWithBorrow_eq_addWithCarry : subWithBorrow a m c = addWithCarry a (m ^^^ 0xFF) c := by
  have hnot : m ^^^ 0xFF = ~~~m := BitVec.xor_allOnes
  have hsum : (a.toNat + (~~~m).toNat + c.toNat : Int) = a.toNat - m.toNat - (1 - c.toNat) + 256 := by
    rw [BitVec.toNat_not]
    omega
  have hvalue : BitVec.ofInt 8 ((a.toNat : Int) - m.toNat - (1 - c.toNat)) =
      BitVec.ofNat 8 (a.toNat + (~~~m).toNat + c.toNat) := by
    apply BitVec.eq_of_toNat_eq
    rw [BitVec.toNat_ofInt, BitVec.toNat_ofNat]
    omega
  have hcarry : (0 : Int) ≤ a.toNat - m.toNat - (1 - c.toNat) ↔ 255 < a.toNat + (~~~m).toNat + c.toNat := by
    omega
  have hne (x y : Bool) : (x != y) = (x == !y) := by decide +revert
  have hsign : (a.getLsbD 7 != m.getLsbD 7) = (a.getLsbD 7 == (~~~m).getLsbD 7) := by rw [hne, BitVec.getLsbD_not]; rfl
  simp only [subWithBorrow, addWithCarry, hnot, hvalue, hcarry, hsign, gt_iff_lt]

/-- R200: overflow is the exact signed sum leaving the range of a byte. -/
theorem addWithCarry_overflow_iff_signed :
    (addWithCarry a m c).overflow = true ↔
      a.toInt + m.toInt + (if c then 1 else 0) < -128 ∨ 127 < a.toInt + m.toInt + (if c then 1 else 0) := by
  rw [addWithCarry_eq, decide_eq_true_iff]
  simp only [signBit_eq_decide, BitVec.toInt_eq_toNat_cond, BitVec.toNat_ofNat, ne_eq, decide_eq_decide]
  cases c <;> simp <;> omega

/-- R200: overflow is the sign bit of `(a XOR r) AND (m XOR r)`. -/
theorem addWithCarry_overflow_iff_bits :
    (addWithCarry a m c).overflow = true ↔
      (a ^^^ (addWithCarry a m c).value) &&& (m ^^^ (addWithCarry a m c).value) &&& 0x80 ≠ 0 := by
  have hbits (x y z : Bool) : (x == y && z != x) = ((x ^^ z) && (y ^^ z)) := by decide +revert
  rw [and_signBit_ne_zero, BitVec.getLsbD_and, BitVec.getLsbD_xor, BitVec.getLsbD_xor, ← hbits]
  rfl

end

/-! ### The whole next state of the arithmetic courses -/

@[simp] theorem operand_a (o : Source) (s : State) : (operand o s).2.a = s.a := by
  cases o <;> simp [operand, memOperand]
@[simp] theorem operand_x (o : Source) (s : State) : (operand o s).2.x = s.x := by
  cases o <;> simp [operand, memOperand]
@[simp] theorem operand_y (o : Source) (s : State) : (operand o s).2.y = s.y := by
  cases o <;> simp [operand, memOperand]

/-- R202 in unbounded arithmetic: the difference is 0 exactly when the register equals the operand. -/
theorem compare_eq (reg m : Byte) (s : State) :
    s.compare reg m =
      s.setP { s.p with c := decide (m.toNat ≤ reg.toNat), z := decide (reg = m), n := (reg - m).getLsbD 7 } := by
  have hz : decide (reg = m) = (reg - m == 0) := decide_eq_decide.mpr sub_eq_zero.symm
  rw [hz, ← ofInt_sub_toNat]
  rfl

section
variable {i : Instr} {o : Source} {s t : State}

/-- R203, R204: a result computed from A, the operand and the old C goes to A, C, V, Z and N. -/
theorem completes_sum {f : Byte → Byte → Bool → AluResult} {r : AluResult}
    (hi : courseOf i = .read o fun m t => t.setSum (f t.a m t.p.c)) (hr : f s.a (operand o s).1 s.p.c = r) :
    Completes i s (crossed o s)
      { (operand o s).2 with a := r.value, p := cvnz s.p r.carry r.overflow r.value } := by
  subst hr
  rw [← operand_a o s, ← operand_p o s]
  exact completes_read hi fun _ => rfl

/-- R208, R209, R210: a register is compared with the operand and left as it was. -/
theorem completes_compare {reg : State → Byte} (hi : courseOf i = .read o fun m t => t.compare (reg t) m)
    (hreg : ∀ pc, reg ((operand o s).2.setPc pc) = reg s) :
    Completes i s (crossed o s)
      { (operand o s).2 with
        p := { s.p with
          c := decide ((operand o s).1.toNat ≤ (reg s).toNat)
          z := decide (reg s = (operand o s).1)
          n := (reg s - (operand o s).1).getLsbD 7 } } := by
  refine completes_read hi fun pc => ?_
  rw [compare_eq, hreg, ← operand_p o s]
  rfl

/-- R240: a read-modify-write of memory is one read and one write of the result at the same address, and no penalty; its
effect acts on the result and the carry-out, in the state after the write. -/
theorem completes_modify {m : Addressing} {op : Byte → Bool → Byte × Bool} {effect : Byte → Bool → State → State}
    {r : Byte} {c : Bool} (hi : courseOf i = .modify (.mem m) op effect) (hop : op (memOperand m s).1 s.p.c = (r, c))
    (heffect : ∀ pc, effect r c ((memWrite (effective m s).ea r (memOperand m s).2).setPc pc) = t.setPc pc) :
    Completes i s 0 t := by
  have hmem : memOperand m s = memRead (effective m s).ea s := by rw [memOperand, effective_state]
  rw [hmem] at hop heffect
  rw [Completes, exec_eq_course, hi, Course.run, runModify_eq]
  simp only [resolveTarget, resolveMem, load, store, hop, advance, heffect, memWrite_pc, memRead_pc, encode_length]
  rfl

/-- R212, R213: the result is written back and sets Z and N; C and V stay. -/
theorem completes_modify_nz {m : Addressing} {op : Byte → Bool → Byte × Bool} {r : Byte} {c : Bool}
    (hi : courseOf i = .modify (.mem m) op fun r _ t => t.setNZ r) (hop : op (memOperand m s).1 s.p.c = (r, c)) :
    Completes i s 0 { memWrite (effective m s).ea r (memOperand m s).2 with p := nz s.p r } := by
  have hp : (memWrite (effective m s).ea r (memOperand m s).2).p = s.p := by simp [memOperand]
  rw [← hp]
  exact completes_modify hi hop fun _ => rfl

end

/-! ### Arithmetic, logic, compares, increments and decrements (O18 to O23) -/

/-- Settles O18: the forms by their Encoding lines; the result, C and V are R200's and R201's in unbounded arithmetic. -/
theorem addAndSubtract : Obligations.AddAndSubtract :=
  ⟨hasForms_of_modes accumulatorModes (fun _ => rfl) adcCodes.source_eq_ofMode rfl,
    hasForms_of_modes accumulatorModes (fun _ => rfl) sbcCodes.source_eq_ofMode rfl, fun _ => rfl, fun _ s =>
    ⟨completes_sum (f := addWithCarry) rfl (addWithCarry_eq s.a _ s.p.c),
      completes_sum (f := subWithBorrow) rfl (subWithBorrow_eq s.a _ s.p.c), fun _ => rfl⟩⟩

/-- Settles O19, from the three laws. -/
theorem arithmeticLaws : Obligations.ArithmeticLaws := fun a m c =>
  ⟨subWithBorrow_eq_addWithCarry a m c, addWithCarry_overflow_iff_signed a m c, addWithCarry_overflow_iff_bits a m c⟩

/-- Settles O20: the forms by their Encoding lines; the operand's read leaves A, which the result is computed from, and P. -/
theorem logicInstructions : Obligations.LogicInstructions := by
  refine ⟨hasForms_of_modes accumulatorModes (fun _ => rfl) andCodes.source_eq_ofMode rfl,
    hasForms_of_modes accumulatorModes (fun _ => rfl) oraCodes.source_eq_ofMode rfl,
    hasForms_of_modes accumulatorModes (fun _ => rfl) eorCodes.source_eq_ofMode rfl, fun o s => ?_⟩
  rw [← operand_a o s, ← operand_p o s]
  exact ⟨completes_read rfl fun _ => rfl, completes_read rfl fun _ => rfl, completes_read rfl fun _ => rfl⟩

/-- Settles O21: the forms by their Encoding lines; the compares differ in their register alone, and the read of BIT's memory
operand leaves A, which Z is computed from. -/
theorem compareAndBit : Obligations.CompareAndBit := by
  refine ⟨hasForms_of_modes accumulatorModes (fun _ => rfl) cmpCodes.source_eq_ofMode rfl,
    hasForms_of_modes [.imm, .zp, .abs] (fun _ => rfl) cpxCodes.source_eq_ofMode rfl,
    hasForms_of_modes [.imm, .zp, .abs] (fun _ => rfl) cpyCodes.source_eq_ofMode rfl,
    hasForms_of_modes [.zp, .abs] (fun _ => rfl) bitCodes.mem_eq_ofMode rfl, fun o s => ?_, fun m s => ?_⟩
  · exact ⟨completes_compare (reg := State.a) rfl fun _ => operand_a o s,
      completes_compare (reg := State.x) rfl fun _ => operand_x o s,
      completes_compare (reg := State.y) rfl fun _ => operand_y o s⟩
  · rw [← operand_a (.mem m) s, ← operand_p (.mem m) s]
    exact completes_read (o := .mem m) rfl fun _ => rfl

/-- Settles O22: the forms by their Encoding lines; the byte plus or minus one is the number's modulo 256. -/
theorem incrementDecrementMemory : Obligations.IncrementDecrementMemory := by
  refine ⟨hasForms_of_modes [.zp, .zpx, .abs, .abx] (fun _ => rfl) incCodes.mem_eq_ofMode rfl,
    hasForms_of_modes [.zp, .zpx, .abs, .abx] (fun _ => rfl) decCodes.mem_eq_ofMode rfl, fun m s => ?_⟩
  simp only [← add_one_eq_ofNat, ← sub_one_eq_ofNat]
  exact ⟨completes_modify_nz (op := increment) rfl rfl, completes_modify_nz (op := decrement) rfl rfl⟩

/-- Settles O23: the Encoding lines by definition; each effect commutes with moving the PC. -/
theorem incrementDecrementIndex : Obligations.IncrementDecrementIndex := by
  refine ⟨rfl, rfl, rfl, rfl, fun s => ?_⟩
  simp only [← add_one_eq_ofNat, ← sub_one_eq_ofNat]
  exact ⟨completes_implied rfl fun _ => rfl, completes_implied rfl fun _ => rfl, completes_implied rfl fun _ => rfl,
    completes_implied rfl fun _ => rfl⟩

end Sys2Proof.Machine

namespace Sys2Proof

theorem Codes.target_eq_ofMode (c : Codes) (t : Target) : c.target t = c.ofMode t.mode := by
  cases t with
  | acc => rfl
  | mem m => exact c.mem_eq_ofMode m

end Sys2Proof

namespace Sys2Proof.Machine
open Sys2Proof.Claims

/-! ### Shifts and rotates in numbers (R241 to R244) -/

section
variable (m : Byte) (c : Bool)

theorem shiftLeft_eq : shiftLeft m c = (BitVec.ofNat 8 (2 * m.toNat), m.getLsbD 7) := by
  refine Prod.ext (BitVec.eq_of_toNat_eq ?_) rfl
  simp only [shiftLeft, BitVec.toNat_shiftLeft, BitVec.toNat_ofNat, Nat.shiftLeft_eq, pow_one, Nat.mul_comm]

theorem shiftRight_eq : shiftRight m c = (BitVec.ofNat 8 (m.toNat / 2), m.getLsbD 0) := by
  refine Prod.ext (BitVec.eq_of_toNat_eq ?_) rfl
  simp only [shiftRight, BitVec.toNat_ushiftRight, BitVec.toNat_ofNat, Nat.shiftRight_one]
  omega

/-- The shifted byte has bit 0 clear, so the old carry that enters there is added. -/
theorem rotateLeft_eq : rotateLeft m c = (BitVec.ofNat 8 (2 * m.toNat + (if c then 1 else 0)), m.getLsbD 7) := by
  have hdisjoint : m <<< 1 &&& (BitVec.ofBool c).setWidth 8 = 0 := by
    ext k hk
    cases c <;> simp +contextual
  refine Prod.ext (BitVec.eq_of_toNat_eq ?_) rfl
  rw [rotateLeft, ← BitVec.add_eq_or_of_and_eq_zero _ _ hdisjoint]
  cases c <;> simp [Nat.shiftLeft_eq, Nat.mul_comm]

/-- The shifted byte has bit 7 clear, so the old carry that enters there is added. -/
theorem rotateRight_eq : rotateRight m c = (BitVec.ofNat 8 (m.toNat / 2 + (if c then 128 else 0)), m.getLsbD 0) := by
  have hhalf : m.toNat / 2 < 2 ^ 7 := by omega
  have hcarry : ((BitVec.ofBool c).setWidth 8 <<< 7).toNat = c.toNat <<< 7 := by cases c <;> rfl
  refine Prod.ext (BitVec.eq_of_toNat_eq ?_) rfl
  rw [rotateRight, BitVec.toNat_or, BitVec.toNat_ushiftRight, hcarry, Nat.shiftRight_one, Nat.or_comm,
    ← Nat.shiftLeft_add_eq_or_of_lt hhalf, BitVec.toNat_ofNat]
  cases c <;> simp <;> omega

end

/-! ### Shifts and rotates (O24) -/

/-- R240 on A: the result goes to A and the effect acts on it and on the carry-out; nothing is read or written. -/
theorem completes_modify_acc {i : Instr} {s t : State} {op : Byte → Bool → Byte × Bool}
    {effect : Byte → Bool → State → State} {r : Byte} {c : Bool} (hi : courseOf i = .modify .acc op effect)
    (hop : op s.a s.p.c = (r, c)) (heffect : ∀ pc, effect r c ((s.setA r).setPc pc) = t.setPc pc) :
    Completes i s 0 t := by
  rw [Completes, exec_eq_course, hi, Course.run, runModify_eq]
  simp only [resolveTarget, load, store, hop, advance, State.setA_pc, heffect, encode_length]
  rfl

/-- R240 on memory: the result is written back, and C, Z and N are set from it and from the carry-out; V stays. -/
theorem completes_modify_cnz {i : Instr} {m : Addressing} {s : State} {op : Byte → Bool → Byte × Bool} {r : Byte}
    {c : Bool} (hi : courseOf i = .modify (.mem m) op fun r c u => (u.setC c).setNZ r)
    (hop : op (memOperand m s).1 s.p.c = (r, c)) :
    Completes i s 0 { memWrite (effective m s).ea r (memOperand m s).2 with p := cnz s.p c r } := by
  have hp : (memWrite (effective m s).ea r (memOperand m s).2).p = s.p := by simp [memOperand]
  rw [← hp]
  exact completes_modify hi hop fun _ => rfl

/-- R240: an operation on the operand and the old carry, whose result and carry-out set C, Z and N, is a shift of either
operand. -/
theorem shiftRule_of_modify {f : Target → Instr} {op : Byte → Bool → Byte × Bool} {res : Byte → Bool → Byte}
    {out : Byte → Bool} (hf : ∀ t, courseOf (f t) = .modify t op fun r c u => (u.setC c).setNZ r)
    (hop : ∀ m c, op m c = (res m c, out m)) : ShiftRule f res out :=
  ⟨fun _ => completes_modify_acc (hf .acc) (hop _ _) fun _ => rfl,
    fun m _ => completes_modify_cnz (hf (.mem m)) (hop _ _)⟩

/-- Settles O24: the forms by their Encoding lines; the four differ in their operation alone, each of them in numbers. -/
theorem shiftsAndRotates : Obligations.ShiftsAndRotates :=
  ⟨hasForms_of_modes shiftModes (fun _ => rfl) aslCodes.target_eq_ofMode rfl,
    hasForms_of_modes shiftModes (fun _ => rfl) lsrCodes.target_eq_ofMode rfl,
    hasForms_of_modes shiftModes (fun _ => rfl) rolCodes.target_eq_ofMode rfl,
    hasForms_of_modes shiftModes (fun _ => rfl) rorCodes.target_eq_ofMode rfl,
    shiftRule_of_modify (fun _ => rfl) shiftLeft_eq, shiftRule_of_modify (fun _ => rfl) shiftRight_eq,
    shiftRule_of_modify (fun _ => rfl) rotateLeft_eq, shiftRule_of_modify (fun _ => rfl) rotateRight_eq⟩

end Sys2Proof.Machine

namespace Sys2Proof.Machine
open Sys2Proof.Claims

/-! ### Branches (O25) -/

/-- R144: a branch's offset is added as a signed number, modulo 2^16. -/
theorem branchTarget_eq (pc : Addr) (rel : Byte) : branchTarget pc rel = pc + 2 + BitVec.ofInt 16 rel.toInt := rfl

/-- R260: a course that branches follows the rule: the PC alone moves, and a taken branch pays for itself and for a new page. -/
theorem branchRule_of_course {f : Byte → Instr} {op : Byte} {cond : Status → Bool}
    (hf : ∀ rel, courseOf (f rel) = .branch cond rel) (hencode : ∀ rel, encode (f rel) = [op, rel])
    (hcycles : ∀ rel, (f rel).baseCycles = 2) : BranchRule f op cond := fun rel s => by
  have hlength : (f rel).length = 2 := by
    rw [← encode_length, hencode]
    rfl
  refine ⟨hencode rel, hcycles rel, fun hcond => ?_, fun hcond => ?_⟩ <;>
    rw [JumpsTo, exec_eq_course, hf, Course.run, runBranch, hcond]
  · simp only [advance, hlength]
    rfl
  · simp only [advance_pc, hlength, branchTarget_eq, hiByte_ne, penalty, decide_eq_true_eq, ne_eq, ite_not]
    rfl

/-- Settles O25: the eight differ in their opcode and their condition alone. -/
theorem branches : Obligations.Branches := by
  refine ⟨?_, ?_, ?_, ?_, ?_, ?_, ?_, ?_⟩ <;>
    exact branchRule_of_course (fun _ => rfl) (fun _ => rfl) fun _ => rfl

end Sys2Proof.Machine

namespace Sys2Proof.Machine
open Sys2Proof.Claims

/-! ### The stack in the numbers of its bytes (R23, R290, R291) -/

theorem push_eq_stackByte (v : Byte) (s : State) :
    push v s = { s with sp := s.sp - 1, cpuMem := s.cpuMem.write (stackByte s.sp) v } := by
  rw [push_eq, toNat_stackAddr]
  rfl

theorem pull_eq_stackByte (s : State) :
    pull s = (s.cpuMem.read (stackByte (s.sp + 1)), { s with sp := s.sp + 1 }) := by
  rw [pull_eq, toNat_stackAddr]
  rfl

theorem pushWord_eq (w : Addr) (s : State) : pushWord w s = { s with sp := s.sp - 2, cpuMem := pushedPair w s } := by
  have hsp : s.sp - 1 - 1 = s.sp - 2 := by bv_omega
  simp only [pushWord, push_eq_stackByte, hsp, pushedPair]

theorem pullWord_eq (s : State) :
    pullWord s =
      (word (s.cpuMem.read (stackByte (s.sp + 1))) (s.cpuMem.read (stackByte (s.sp + 2))), { s with sp := s.sp + 2 }) := by
  have hsp : s.sp + 1 + 1 = s.sp + 2 := by bv_omega
  simp only [pullWord, pull_eq_stackByte, hsp]

/-- R425: an interrupt entry stores the two bytes of the return address and the status, whatever its vector. -/
theorem interruptEntry_cpuMem (ret : Addr) (b : Bool) (vector : Addr) (s : State) :
    (interruptEntry ret b vector s).cpuMem = (pushedPair ret s).write (stackByte (s.sp - 2)) (s.p.pushed b) := by
  simp only [interruptEntry, jumpThrough_cpuMem, State.setI_cpuMem, pushWord_eq, push_eq_stackByte]

/-- R306: the return pulls P, then the PC. -/
theorem interruptReturn_eq (s : State) :
    interruptReturn s =
      { s with
        sp := s.sp + 3
        p := Status.pulled (s.cpuMem.read (stackByte (s.sp + 1)))
        pc := word (s.cpuMem.read (stackByte (s.sp + 2))) (s.cpuMem.read (stackByte (s.sp + 3))) } := by
  have hlow : s.sp + 1 + 1 = s.sp + 2 := by bv_omega
  have hhigh : s.sp + 1 + 2 = s.sp + 3 := by bv_omega
  simp only [interruptReturn, pull_eq_stackByte, pullWord_eq, State.setP, State.setPc, hlow, hhigh]

/-! ### Calls and returns, pushes and pulls: the whole next state -/

/-- An effect that sets the PC itself overrides the advance. -/
theorem jumpsTo_implied {i : Instr} {s t : State} {target : Addr} {effect : State → State}
    (hi : courseOf i = .implied effect) (heffect : effect (advance i s) = t.setPc target) : JumpsTo i s 0 target t := by
  rw [JumpsTo, exec_eq_course, hi, Course.run, runImplied, heffect]
  rfl

/-- R270: the address pushed is that of the last of the three bytes. -/
theorem exec_jsr (a : Addr) (s : State) :
    JumpsTo (.jsr a) s 0 a { s with sp := s.sp - 2, cpuMem := pushedPair (s.pc + 2) s } := by
  have hlast : (advance (.jsr a) s).pc - 1 = s.pc + 2 := by
    have hnext : (advance (.jsr a) s).pc = s.pc + 3 := rfl
    rw [hnext]
    bv_omega
  refine jumpsTo_implied rfl ?_
  rw [hlast, pushWord_eq]
  rfl

/-- R271. -/
theorem exec_rts (s : State) :
    JumpsTo .rts s 0 (word (s.cpuMem.read (stackByte (s.sp + 1))) (s.cpuMem.read (stackByte (s.sp + 2))) + 1)
      { s with sp := s.sp + 2 } := by
  refine jumpsTo_implied rfl ?_
  rw [pullWord_eq]
  rfl

/-- Settles O27: the encodings and the cycles by definition; what is left is `exec_jsr` and `exec_rts`. -/
theorem callAndReturn : Obligations.CallAndReturn := fun a s => ⟨rfl, rfl, rfl, rfl, exec_jsr a s, exec_rts s⟩

/-- R293. -/
theorem exec_pha (s : State) :
    Completes .pha s 0 { s with sp := s.sp - 1, cpuMem := s.cpuMem.write (stackByte s.sp) s.a } :=
  completes_implied rfl fun _ => push_eq_stackByte _ _

/-- R295: bit 4 is pushed as 1. -/
theorem exec_php (s : State) :
    Completes .php s 0 { s with sp := s.sp - 1, cpuMem := s.cpuMem.write (stackByte s.sp) (s.p.pushed true) } :=
  completes_implied rfl fun _ => push_eq_stackByte _ _

/-- R294. -/
theorem exec_pla (s : State) :
    let pulled := s.cpuMem.read (stackByte (s.sp + 1))
    Completes .pla s 0 { s with sp := s.sp + 1, a := pulled, p := nz s.p pulled } :=
  completes_implied rfl fun _ => by
    rw [pull_eq_stackByte]
    rfl

/-- R296. -/
theorem exec_plp (s : State) :
    Completes .plp s 0 { s with sp := s.sp + 1, p := Status.pulled (s.cpuMem.read (stackByte (s.sp + 1))) } :=
  completes_implied rfl fun _ => by
    rw [pull_eq_stackByte]
    rfl

/-- R306: no 1 is added to the address pulled. -/
theorem exec_rti (s : State) :
    JumpsTo .rti s 0 (word (s.cpuMem.read (stackByte (s.sp + 2))) (s.cpuMem.read (stackByte (s.sp + 3))))
      { s with sp := s.sp + 3, p := Status.pulled (s.cpuMem.read (stackByte (s.sp + 1))) } := by
  refine jumpsTo_implied rfl ?_
  rw [interruptReturn_eq]
  rfl

end Sys2Proof.Machine

namespace Sys2Proof.Machine
open Sys2Proof.Claims

/-! ### The bytes a push changes (O49) -/

section
variable {s : State} {a : Nat}

theorem push_frame (v : Byte) (h : a ≠ stackByte s.sp) : (push v s).cpuMem.read a = s.cpuMem.read a := by
  rw [push_eq_stackByte]
  exact Memory.read_write_other h _ _

theorem pushedPair_frame (w : Addr) (hhigh : a ≠ stackByte s.sp) (hlow : a ≠ stackByte (s.sp - 1)) :
    (pushedPair w s).read a = s.cpuMem.read a := by
  rw [pushedPair, Memory.read_write_other hlow, Memory.read_write_other hhigh]

theorem interruptEntry_frame (ret : Addr) (b : Bool) (vector : Addr) (hhigh : a ≠ stackByte s.sp)
    (hlow : a ≠ stackByte (s.sp - 1)) (hstatus : a ≠ stackByte (s.sp - 2)) :
    (interruptEntry ret b vector s).cpuMem.read a = s.cpuMem.read a := by
  rw [interruptEntry_cpuMem, Memory.read_write_other hstatus, pushedPair_frame ret hhigh hlow]

end

/-- The effect leaves every byte but the `n` stack bytes that SP designates on its way down. -/
def PushesOnly (n : Nat) (effect : State → State) : Prop :=
  ∀ s, (∀ a, (∀ k < n, a ≠ stackByte (s.sp - BitVec.ofNat 8 k)) → (effect s).cpuMem.read a = s.cpuMem.read a) ∧
    (effect s).ppuMem = s.ppuMem

/-- R270, R293, R295, R305: an instruction that pushes is a course whose effect is its pushes. -/
theorem courseOf_pushing {i : Instr} (h : 0 < pushes i) :
    ∃ effect, courseOf i = .implied effect ∧ PushesOnly (pushes i) effect := by
  have hsp (sp : Byte) : sp - BitVec.ofNat 8 0 = sp := BitVec.sub_zero sp
  cases i
  case pha | php => exact ⟨_, rfl, fun s => ⟨fun a ha => push_frame _ (hsp s.sp ▸ ha 0 (by decide)), push_ppuMem _ s⟩⟩
  case jsr target =>
    refine ⟨_, rfl, fun s => ⟨fun a ha => ?_, pushWord_ppuMem _ s⟩⟩
    simp only [pushWord_eq]
    exact pushedPair_frame _ (hsp s.sp ▸ ha 0 Nat.two_pos) (ha 1 Nat.one_lt_two)
  case brk =>
    exact ⟨_, rfl, fun s => ⟨fun a ha =>
      interruptEntry_frame _ _ _ (hsp s.sp ▸ ha 0 (by decide)) (ha 1 (by decide)) (ha 2 (by decide)),
      interruptEntry_ppuMem _ _ _ s⟩⟩
  all_goals exact absurd h (Nat.lt_irrefl 0)

/-- Settles O49: the effect pushes only, and neither the advance of the PC nor the budget touches a memory. -/
theorem pushingFrame : Obligations.PushingFrame := fun i s t hpush hexec => by
  obtain ⟨effect, hi, heffect⟩ := courseOf_pushing hpush
  rw [exec_eq_course, hi, Host.Outcome.next.injEq] at hexec
  subst hexec
  obtain ⟨hcpu, hppu⟩ := heffect (advance i s)
  exact ⟨hcpu, fun a => congrArg (Memory.read · a) hppu⟩

end Sys2Proof.Machine

namespace Sys2Proof.Machine
open Sys2Proof.Claims

/-! ### Round trips (O54): what was pushed is pulled again, when the memory is canonical -/

theorem stackByte_ne {p q : Byte} (h : p ≠ q) : stackByte p ≠ stackByte q := fun heq =>
  h (BitVec.eq_of_toNat_eq (Nat.add_left_cancel heq))

section
variable {s : State} (hwf : s.cpuMem.wf cpuMemSize = true) (w : Addr)
include hwf

theorem pushedPair_wf : (pushedPair w s).wf cpuMemSize = true := by
  simpa only [pushWord_eq] using pushWord_wf (w := w) hwf

/-- The low byte is the later one, and lies lower. -/
theorem read_pushedPair_low : (pushedPair w s).read (stackByte (s.sp - 1)) = loByte w := by
  have hhigh : (s.cpuMem.write (stackByte s.sp) (hiByte w)).wf cpuMemSize = true := by
    simpa only [push_eq_stackByte] using push_wf (v := hiByte w) hwf
  exact Memory.read_write_same hhigh

theorem read_pushedPair_high : (pushedPair w s).read (stackByte s.sp) = hiByte w := by
  rw [pushedPair, Memory.read_write_other (stackByte_ne (by bv_omega)), Memory.read_write_same hwf]

/-- R271: the return goes on after the address that was pushed. -/
theorem rts_after_pushWord {t : State} (hsp : t.sp = s.sp - 2) (hmem : t.cpuMem = pushedPair w s) :
    exec .rts t = .next { t with pc := w + 1, sp := s.sp, budget := 5 } := by
  have hlow : t.sp + 1 = s.sp - 1 := by rw [hsp]; bv_omega
  have hhigh : t.sp + 2 = s.sp := by rw [hsp]; bv_omega
  have hpulled : word (t.cpuMem.read (stackByte (t.sp + 1))) (t.cpuMem.read (stackByte (t.sp + 2))) = w := by
    rw [hlow, hhigh, hmem, read_pushedPair_low hwf, read_pushedPair_high hwf, word_loByte_hiByte]
  rw [exec_rts t, hpulled, hhigh]
  rfl

/-- R306, R430: the return finds what an entry pushed, whichever entry it was. -/
theorem rti_after_entry {t : State} (b : Bool) (vector : Addr) (hsp : t.sp = (interruptEntry w b vector s).sp)
    (hmem : t.cpuMem = (interruptEntry w b vector s).cpuMem) :
    exec .rti t = .next { t with pc := w, sp := s.sp, p := { s.p with b := false }, budget := 5 } := by
  rw [interruptEntry_sp] at hsp
  rw [interruptEntry_cpuMem] at hmem
  have hstatus : t.sp + 1 = s.sp - 2 := by rw [hsp]; bv_omega
  have hlow : t.sp + 2 = s.sp - 1 := by rw [hsp]; bv_omega
  have hhigh : t.sp + 3 = s.sp := by rw [hsp]; bv_omega
  have hp : Status.pulled (t.cpuMem.read (stackByte (t.sp + 1))) = { s.p with b := false } := by
    rw [hstatus, hmem, Memory.read_write_same (pushedPair_wf hwf w), pulled_pushed]
  have hpc : word (t.cpuMem.read (stackByte (t.sp + 2))) (t.cpuMem.read (stackByte (t.sp + 3))) = w := by
    rw [hlow, hhigh, hmem, Memory.read_write_other (stackByte_ne (by bv_omega)),
      Memory.read_write_other (stackByte_ne (by bv_omega)), read_pushedPair_low hwf, read_pushedPair_high hwf,
      word_loByte_hiByte]
  rw [exec_rti t, hp, hpc, hhigh]
  rfl

end

/-- Settles O54: each pull finds what the push before it stored. JSR's return address is that of its own last byte. -/
theorem stackRoundTrips : Obligations.StackRoundTrips := fun s hwf => by
  have hsp : s.sp - 1 + 1 = s.sp := BitVec.sub_add_cancel s.sp 1
  have hpulled (v : Byte) : (s.cpuMem.write (stackByte s.sp) v).read (stackByte s.sp) = v := Memory.read_write_same hwf
  have hpc (m n : Addr) : s.pc + m + n = s.pc + (m + n) := BitVec.add_assoc s.pc m n
  refine ⟨fun a => ⟨_, exec_jsr a s, ?_⟩, ⟨_, exec_pha s, ?_⟩, ⟨_, exec_php s, ?_⟩, ⟨_, exec_eq_course .brk s, ?_⟩,
    ?_, ?_⟩
  · rw [rts_after_pushWord hwf (s.pc + 2) rfl rfl, hpc]
    rfl
  · rw [exec_pla]
    simp only [hsp, hpulled, hpc]
    rfl
  · rw [exec_plp]
    simp only [hsp, hpulled, hpc, pulled_pushed]
    rfl
  · have hret : (advance .brk s).pc + 1 = s.pc + 2 := hpc 1 1
    rw [← hret]
    exact rti_after_entry (s := advance .brk s) hwf _ true irqVector rfl rfl
  · exact rti_after_entry (s := s.setNmiPending false) hwf s.pc false nmiVector rfl rfl
  · exact rti_after_entry hwf s.pc false irqVector rfl rfl

end Sys2Proof.Machine

namespace Sys2Proof.Machine
open Sys2Proof.Claims

/-! ### Taking an exception, as a whole (R425) -/

/-- R23: the stack lies below 0x0200. -/
theorem ne_stackByte_of_lt {a : Nat} (h : 0x1FF < a) (sp : Byte) : a ≠ stackByte sp := by
  have hsp := sp.isLt
  unfold stackByte
  omega

section
variable {vector : Addr} (hwindow : 0x2007 < vector.toNat) (hlast : vector.toNat < 0xFFFF)
include hwindow hlast

/-- R426: a vector above the window is a pair of stored bytes, and fetching it touches no device. -/
theorem jumpThrough_eq_of_lt (s : State) :
    jumpThrough vector s =
      { s with pc := word (s.cpuMem.read vector.toNat) (s.cpuMem.read (vector.toNat + 1)) } := by
  have hnext : (vector + 1).toNat = vector.toNat + 1 := by bv_omega
  rw [jumpThrough_plain (shimReg_eq_none (Or.inr hwindow)) (shimReg_eq_none (Or.inr (by omega))), hnext]
  rfl

/-- R425: the pushes leave the vector's bytes, so the PC is what they held before the entry. -/
theorem interruptEntry_eq_entered (ret : Addr) (b : Bool) (s : State) :
    interruptEntry ret b vector s = entered ret b vector.toNat s := by
  have hsp : s.sp - 2 - 1 = s.sp - 3 := by bv_omega
  have hvector (a : Nat) (ha : 0x1FF < a) :
      ((pushedPair ret s).write (stackByte (s.sp - 2)) (s.p.pushed b)).read a = s.cpuMem.read a := by
    rw [Memory.read_write_other (ne_stackByte_of_lt ha _),
      pushedPair_frame ret (ne_stackByte_of_lt ha _) (ne_stackByte_of_lt ha _)]
  simp only [interruptEntry, jumpThrough_eq_of_lt hwindow hlast, pushWord_eq, push_eq_stackByte, State.setI, State.setP, hsp,
    hvector vector.toNat (by omega), hvector (vector.toNat + 1) (by omega), entered]

end

/-! ### Stack, status flags and system instructions (O28, O30, O31) -/

/-- R305: the return address is two after BRK's own, past the padding byte. -/
theorem exec_brk (s : State) : exec .brk s = .next { entered (s.pc + 2) true 0xFFFE s with budget := 6 } := by
  have hret : (advance .brk s).pc + 1 = s.pc + 2 := BitVec.add_assoc s.pc 1 1
  have hentry : interruptEntry (s.pc + 2) true irqVector (advance .brk s) = entered (s.pc + 2) true 0xFFFE (advance .brk s) :=
    interruptEntry_eq_entered (by decide) (by decide) _ _ _
  rw [exec_eq_course, courseOf, Course.run, runImplied, hret, hentry]
  rfl

/-- Settles O31: the encodings and the cycles by definition; what is left is `exec_brk` and `exec_rti`. -/
theorem breakAndReturn : Obligations.BreakAndReturn :=
  ⟨rfl, rfl, rfl, rfl, fun s => ⟨exec_brk s, exec_rti s⟩⟩

/-- Settles O28: the encodings and the cycles by definition; what is left is one lemma for each instruction. -/
theorem stackInstructions : Obligations.StackInstructions :=
  ⟨rfl, rfl, rfl, rfl, rfl, rfl, rfl, rfl, fun s => ⟨exec_pha s, exec_php s, exec_pla s, exec_plp s⟩⟩

/-- Settles O30: the encodings and the cycles by definition; each effect writes its flag alone, wherever the PC is. -/
theorem flagInstructions : Obligations.FlagInstructions :=
  ⟨rfl, rfl, rfl, rfl, rfl, rfl, rfl, rfl, rfl, rfl, fun _ =>
    ⟨completes_implied rfl fun _ => rfl, completes_implied rfl fun _ => rfl, completes_implied rfl fun _ => rfl,
      completes_implied rfl fun _ => rfl, completes_implied rfl fun _ => rfl, completes_implied rfl fun _ => rfl,
      completes_implied rfl fun _ => rfl, completes_implied rfl fun _ => rfl⟩⟩

end Sys2Proof.Machine

namespace Sys2Proof

/-! ### The list of the undocumented NOPs (R331) -/

/-- R331: the opcodes of each mode. -/
theorem mem_nopForms {op : Byte} {m : Mode} :
    (op, m) ∈ nopForms ↔
      (m = .imp ∧ op ∈ [0x1A#8, 0x3A, 0x5A, 0x7A, 0xDA, 0xFA]) ∨
      (m = .imm ∧ op ∈ [0x80#8, 0x82, 0x89, 0xC2, 0xE2]) ∨
      (m = .zp ∧ op ∈ [0x04#8, 0x44, 0x64]) ∨
      (m = .zpx ∧ op ∈ [0x14#8, 0x34, 0x54, 0x74, 0xD4, 0xF4]) ∨
      (m = .abs ∧ op = 0x0C) ∨
      (m = .abx ∧ op ∈ [0x1C#8, 0x3C, 0x5C, 0x7C, 0xDC, 0xFC]) := by
  simp only [nopForms, List.mem_append, List.mem_cons, List.not_mem_nil, or_false, Prod.mk.injEq, BitVec.ofNat_eq_ofNat,
    and_or_left, and_comm, or_assoc]

end Sys2Proof

namespace Sys2Proof.Machine
open Sys2Proof.Claims

/-! ### The byte written back, and the second operation on A (R335 to R340) -/

theorem increment_eq (v : Byte) (c : Bool) : increment v c = (BitVec.ofNat 8 ((v.toNat + 1) % 256), c) :=
  congrArg (·, c) (add_one_eq_ofNat v)

theorem decrement_eq (v : Byte) (c : Bool) : decrement v c = (BitVec.ofNat 8 ((v.toNat + 255) % 256), c) :=
  congrArg (·, c) (sub_one_eq_ofNat v)

section
variable (m : Addressing) (r : Byte) (s : State)

/-- The one read and the one write leave A. -/
theorem modified_a : (memWrite (effective m s).ea r (memOperand m s).2).a = s.a := by simp [memOperand]

/-- The one read and the one write leave P. -/
theorem modified_p : (memWrite (effective m s).ea r (memOperand m s).2).p = s.p := by simp [memOperand]

end

section
variable {i : Instr} {m : Addressing} {s : State} {op : Byte → Bool → Byte × Bool} {r : Byte} {c : Bool}
  (hop : op (memOperand m s).1 s.p.c = (r, c))
include hop

/-- R335, R336, R337: A and the byte written back are combined bit by bit; the shift's carry-out goes to C. -/
theorem completes_modify_logic {f : Byte → Byte → Byte}
    (hi : courseOf i = .modify (.mem m) op fun r c t => ((t.setC c).setA (f t.a r)).setNZ (f t.a r)) :
    Completes i s 0
      { memWrite (effective m s).ea r (memOperand m s).2 with a := f s.a r, p := cnz s.p c (f s.a r) } := by
  rw [← modified_a m r s, ← modified_p m r s]
  exact completes_modify hi hop fun _ => rfl

/-- R338, R340: a result computed from A, the byte written back and a carry (`carry` picks it from the carry-out and the old C)
goes to A, C, V, Z and N. -/
theorem completes_modify_sum {f : Byte → Byte → Bool → AluResult} {carry : Bool → Bool → Bool} {res : AluResult}
    (hi : courseOf i = .modify (.mem m) op fun r c t => t.setSum (f t.a r (carry c t.p.c)))
    (hres : f s.a r (carry c s.p.c) = res) :
    Completes i s 0
      { memWrite (effective m s).ea r (memOperand m s).2 with
        a := res.value, p := cvnz s.p res.carry res.overflow res.value } := by
  subst hres
  rw [← modified_a m r s, ← modified_p m r s]
  exact completes_modify hi hop fun _ => rfl

/-- R339: A is compared with the byte written back and left as it was. -/
theorem completes_modify_compare (hi : courseOf i = .modify (.mem m) op fun r _ t => t.compare t.a r) :
    Completes i s 0
      { memWrite (effective m s).ea r (memOperand m s).2 with
        p := { s.p with c := decide (r.toNat ≤ s.a.toNat), z := decide (s.a = r), n := (s.a - r).getLsbD 7 } } := by
  rw [← modified_a m r s, ← modified_p m r s]
  exact completes_modify hi hop fun _ => compare_eq _ _ _

end

/-! ### The undocumented instructions (O32, O33, O34) -/

/-- Settles O32: the list by `mem_nopForms`; the effect of each form is to do nothing with what it has read. -/
theorem undocumentedNop : Obligations.UndocumentedNop :=
  ⟨fun _ _ => List.contains_iff_mem.trans mem_nopForms,
    fun _ _ _ => ⟨rfl, rfl, rfl, rfl, rfl, rfl⟩,
    fun _ b m _ => ⟨rfl, completes_implied rfl fun _ => rfl, completes_read (o := .imm b) rfl fun _ => rfl,
      completes_read (o := .mem m) rfl fun _ => rfl⟩⟩

/-- Settles O33: the forms by their Encoding lines; LAX sets Z and N in the P that its read leaves, and SAX's value does not
depend on the PC. -/
theorem loadAndStoreBoth : Obligations.LoadAndStoreBoth := by
  refine ⟨hasForms_of_modes [.zp, .zpy, .abs, .aby, .izx, .izy] (fun _ => rfl) laxCodes.mem_eq_ofMode rfl,
    hasForms_of_modes [.zp, .zpy, .abs, .izx] (fun _ => rfl) saxCodes.mem_eq_ofMode rfl, fun m s => ⟨?_, ?_⟩⟩
  · rw [← operand_p (.mem m) s]
    exact completes_read (o := .mem m) rfl fun _ => rfl
  · exact completes_store (value := fun t => t.a &&& t.x) rfl fun _ => rfl

/-- Settles O34: the forms by their Encoding lines; the byte written back is the shift's, the rotate's, the increment's or the
decrement's in numbers, and what is done with it is one of three things. RRA adds with the carry-out, ISB subtracts with
the old C. -/
theorem modifyCombinations : Obligations.ModifyCombinations :=
  ⟨hasForms_of_modes comboModes (fun _ => rfl) sloCodes.mem_eq_ofMode rfl,
    hasForms_of_modes comboModes (fun _ => rfl) rlaCodes.mem_eq_ofMode rfl,
    hasForms_of_modes comboModes (fun _ => rfl) sreCodes.mem_eq_ofMode rfl,
    hasForms_of_modes comboModes (fun _ => rfl) rraCodes.mem_eq_ofMode rfl,
    hasForms_of_modes comboModes (fun _ => rfl) dcpCodes.mem_eq_ofMode rfl,
    hasForms_of_modes comboModes (fun _ => rfl) isbCodes.mem_eq_ofMode rfl, fun _ s =>
    ⟨completes_modify_logic (f := (· ||| ·)) (shiftLeft_eq _ s.p.c) rfl,
      completes_modify_logic (f := (· &&& ·)) (rotateLeft_eq _ s.p.c) rfl,
      completes_modify_logic (f := (· ^^^ ·)) (shiftRight_eq _ s.p.c) rfl,
      completes_modify_sum (f := addWithCarry) (carry := fun out _ => out) (rotateRight_eq _ s.p.c) rfl
        (addWithCarry_eq s.a _ _),
      completes_modify_compare (decrement_eq _ s.p.c) rfl,
      completes_modify_sum (f := subWithBorrow) (carry := fun _ old => old) (increment_eq _ s.p.c) rfl
        (subWithBorrow_eq s.a _ s.p.c)⟩⟩

end Sys2Proof.Machine

namespace Sys2Proof.Machine
open Sys2Proof.Claims

/-! ### What halts the engine (O9) -/

/-- R401: an instruction with a descriptor leaves the run state as it was. -/
theorem exec_run_of_hasDescriptor {i : Instr} (hi : i.hasDescriptor = true) {s t : State} (h : exec i s = .next t) :
    t.run = s.run := by
  rw [exec_eq_course] at h
  cases h
  exact effectOnly_run.run_eq (courseOf_keeps_run hi _)

/-- R133: the instruction fetched at an admitted opcode has a descriptor, whatever its operand bytes are. -/
theorem fetch_hasDescriptor {s : State} (h : (instrOf (memRead s.pc s).1 0 0).admitted s.config.unofficial = true) :
    (fetch s).instr.hasDescriptor = true := by
  have hdesc (b1 b2 : Byte) : (instrOf (memRead s.pc s).1 b1 b2).hasDescriptor = true := by
    have hadm := (instrOf_admitted s.config.unofficial (memRead s.pc s).1 b1 b2).trans h
    rw [Instr.admitted, Bool.and_eq_true] at hadm
    exact hadm.1
  simp only [fetch, h, if_true]
  split <;> exact hdesc _ _

/-- R401: `ExecuteOne` halts a running engine at an opcode that is not admitted, and records it with the PC, which stays. -/
theorem executeOne_halted {s t : State} {reason : Fault} (hr : s.run = .running) (h : executeOne s = .next t)
    (ht : t.run = .halted reason) :
    t.pc = s.pc ∧ (instrOf (memRead s.pc s).1 0 0).admitted s.config.unofficial = false ∧
      reason = .undefinedInstruction (memRead s.pc s).1 s.pc := by
  cases hadm : (instrOf (memRead s.pc s).1 0 0).admitted s.config.unofficial with
  | true =>
    have hrun := exec_run_of_hasDescriptor (fetch_hasDescriptor hadm) h
    simp [hr, ht] at hrun
  | false =>
    rw [executeOne, fetch_unadmitted hadm, exec_undefined] at h
    cases h
    cases ht
    simp

/-- R132: a boundary is a service, which leaves the run state as it was, or there is no request and it is `ExecuteOne`. -/
theorem boundary_run_or_executeOne {s t : State} (h : boundary s = .next t) :
    t.run = s.run ∨ NoRequest s ∧ executeOne s = .next t := by
  unfold boundary at h
  split at h
  · cases h; exact .inl (by simp [serviceReset])
  split at h
  · cases h; exact .inl (by simp [serviceNmi])
  split at h
  · cases h; exact .inl (by simp [serviceIrq])
  next hreset hnmi hirq =>
    have hmasked : s.irqLine = false ∨ s.p.i = true := by simpa [or_iff_not_imp_left] using hirq
    exact .inr ⟨⟨by simpa using hreset, by simpa using hnmi, hmasked⟩, h⟩

/-- Settles O9: neither the count-down nor a service halts the engine, so the step was `ExecuteOne`. -/
theorem haltOnlyByUnadmittedOpcode : Obligations.HaltOnlyByUnadmittedOpcode := fun s t reason hr h ht => by
  obtain ⟨-, hcountdown, hboundary⟩ := tickRule s
  obtain h0 | hpos := Nat.eq_zero_or_pos s.budget
  · rw [hboundary hr h0] at h
    obtain hrun | ⟨hnone, hone⟩ := boundary_run_or_executeOne h
    · simp [hr, ht] at hrun
    · exact ⟨h0, hnone, by simpa using executeOne_halted (by simpa using hr) hone ht⟩
  · rw [hcountdown hr hpos] at h
    cases h
    simp [hr] at ht

/-! ### The interrupt services, as a whole (O12) -/

/-- R425: the NMI service is the entry through 0xFFFA, with the latch cleared. -/
theorem serviceNmi_eq_entered (s : State) : serviceNmi s = { entered s.pc false 0xFFFA s with nmiPending := false } :=
  interruptEntry_eq_entered (by decide) (by decide) s.pc false (s.setNmiPending false)

/-- R413, R425: the IRQ service is the entry through 0xFFFE, and no more: the line stays. -/
theorem serviceIrq_eq_entered (s : State) : serviceIrq s = entered s.pc false 0xFFFE s :=
  interruptEntry_eq_entered (by decide) (by decide) s.pc false s

/-- Settles O12: which service the boundary runs is O10; what it does is the entry; BRK's entry is `exec_brk`. -/
theorem interruptEntries : Obligations.InterruptEntries := fun s => by
  refine ⟨fun hat hreset hnmi => ?_, fun hat hreset hnmi hline hi => ?_, exec_brk s⟩
  · rw [step_of_atBoundary hat, boundary_of_nmi hreset hnmi, serviceNmi_eq_entered]
  · rw [step_of_atBoundary hat, boundary_of_irq hreset hnmi hline hi, serviceIrq_eq_entered]

end Sys2Proof.Machine

namespace Sys2Proof.Machine
open Sys2Proof.Claims

/-! ### The reset service, as a whole (O11), and the power-on state (O13) -/

/-- R451, R453: SP falls by 3 either way, and the bytes are stored only when `P_RESET_PUSHES`. -/
theorem resetStack_eq (s : State) :
    resetStack s =
      { s with
        sp := s.sp - 3
        cpuMem := if s.config.resetPushes then (pushedPair s.pc s).write (stackByte (s.sp - 2)) (s.p.pushed false)
          else s.cpuMem } := by
  have hsp : s.sp - 2 - 1 = s.sp - 3 := by bv_omega
  cases h : s.config.resetPushes with
  | true => simp only [resetStack, h, if_true, pushWord_eq, push_eq_stackByte, hsp]
  | false => simp only [resetStack, h, Bool.false_eq_true, if_false, State.setSp]

/-- R23, R451: the reset service stores nothing above the stack page. -/
theorem resetStack_frame {a : Nat} (ha : 0x1FF < a) (s : State) : (resetStack s).cpuMem.read a = s.cpuMem.read a := by
  unfold resetStack
  split
  · rw [push_frame _ (ne_stackByte_of_lt ha _), pushWord_eq]
    exact pushedPair_frame _ (ne_stackByte_of_lt ha _) (ne_stackByte_of_lt ha _)
  · rfl

/-- R451: the pushes leave the vector's bytes, so the PC is what they held before the service. -/
theorem serviceReset_eq (s : State) :
    serviceReset s =
      { resetStack s with
        resetPending := false
        p := { s.p with i := true }
        pc := word (s.cpuMem.read 0xFFFC) (s.cpuMem.read 0xFFFD)
        shim := { s.shim with ctrl := 0x00, mask := 0x00, w := false }
        nmiPending := false } := by
  have hlow : (resetStack s).cpuMem.read 0xFFFC = s.cpuMem.read 0xFFFC := resetStack_frame (by decide) s
  have hhigh : (resetStack s).cpuMem.read 0xFFFD = s.cpuMem.read 0xFFFD := resetStack_frame (by decide) s
  have hlatch : resetStack (s.setResetPending false) = (resetStack s).setResetPending false := by
    simp only [resetStack_eq]
    rfl
  rw [serviceReset, hlatch, jumpThrough_eq_of_lt (by decide) (by decide), ← hlow, ← hhigh, ← resetStack_p s,
    ← resetStack_shim s]
  rfl

/-- Settles O11: a pending reset is what the boundary services, and `serviceReset_eq` is the service's whole effect. -/
theorem resetService : Obligations.ResetService := fun s hat hreset => by
  rw [step_of_atBoundary hat, boundary_of_reset hreset, serviceReset_eq, resetStack_eq]

/-- Settles O13: the power-on values by definition, and the first boundary is the reset service from SP = 0x00, which
pushes the zero PC and the status byte 0x24 and finds a zero vector. -/
theorem powerOnState : Obligations.PowerOnState := by
  refine ⟨rfl, rfl, rfl, rfl, rfl, rfl, rfl, rfl, rfl, rfl, rfl, rfl, fun _ => rfl, fun _ => rfl,
    rfl, rfl, rfl, rfl, rfl, rfl, rfl, rfl, _, resetService State.reset ⟨rfl, rfl⟩ rfl, ?_⟩
  decide

end Sys2Proof.Machine
